-- ==== Sys2Proof/Word.lean ====
section
/-! DEFINITION. The unsigned words the block's registers and ports hold (00_scope.md section 5.1). -/

namespace Sys2Proof

/-- A byte on the wire: 8 bits, unsigned (00_scope.md section 5.1). -/
abbrev Byte := BitVec 8

/-- A 16-bit field: a raw reading or a device id (R23, R24, R28). -/
abbrev Word16 := BitVec 16

/-- The 24-bit firmware field (R25). -/
abbrev Word24 := BitVec 24

/-- The event's 32-bit version (R39, R145). -/
abbrev Word32 := BitVec 32

end Sys2Proof
end

