-- ==== Sys2Proof/Config.lean ====
section
/-! DEFINITION. What the document leaves to the implementation (00_scope.md R7, its second table): the type of the
parameter TEMPLATE_PAYLOAD, and the free value IS_SLEEP_OF. The document's fixed constants are in
Machine/Constants.lean. FLOAT_FMT and PARAM_W have no counterpart: no rule depends on them (R147, R168). -/

namespace Sys2Proof

/-- The twelve payload bytes of a command frame, by their offset in the frame (R77, R163: offsets 3 to 14). -/
structure Payload where
  p3 : Byte
  p4 : Byte
  p5 : Byte
  p6 : Byte
  p7 : Byte
  p8 : Byte
  p9 : Byte
  p10 : Byte
  p11 : Byte
  p12 : Byte
  p13 : Byte
  p14 : Byte
  deriving DecidableEq, Repr

/-- The parameter TEMPLATE_PAYLOAD: a function from the four commands to twelve bytes (R163), held as plain data.
The byte `setPeriod.p4` is replaced by the parameter at every call (R167). DESIGN CHOICE (log 6): it stands in State,
so that every statement quantifies over it; R163's constraint SLEEP ≠ WAKE is `Templates.distinct`. -/
structure Templates where
  sleep : Payload
  wake : Payload
  qfw : Payload
  setPeriod : Payload
  deriving DecidableEq, Repr

/-- R163: "constrained by TEMPLATE_PAYLOAD(SLEEP) != TEMPLATE_PAYLOAD(WAKE)". -/
abbrev Templates.distinct (T : Templates) : Prop := T.sleep ≠ T.wake

/-- The parameter IS_SLEEP_OF, a total function from the sleep/wake byte to a boolean (R149). A FREE VALUE (log 7):
the spec lists two candidates and chooses neither (D8). -/
opaque Config.isSleepOf : Byte → Bool

end Sys2Proof
end

