-- ==== Sys2Proof/Machine/Constants.lean ====
section
/-! DEFINITION. The constants the document fixes (00_scope.md R7) and the default of TEMPLATE_PAYLOAD (R163). -/

namespace Sys2Proof.Machine

/-- The start marker, at offset 0 of every frame (R7, R70). -/
abbrev startMarker : Byte := 0xAA

/-- The end marker, at the last offset of every frame (R7, R70). -/
abbrev endMarker : Byte := 0xAB

/-- The source tag of a measurement report (R71). -/
abbrev tagMeas : Byte := 0xC0

/-- The source tag of an acknowledgement (R71). -/
abbrev tagAck : Byte := 0xC5

/-- The sub-discriminators of the four acknowledgement kinds (R83). -/
abbrev sub05 : Byte := 0x05
abbrev sub06 : Byte := 0x06
abbrev sub07 : Byte := 0x07
abbrev sub08 : Byte := 0x08

/-- The outbound tag, at offset 1 of every command frame (R58). -/
abbrev tagCommand : Byte := 0xB4

/-- The command-family selectors (R58): sleep and wake, firmware query, period set. -/
abbrev selSleepWake : Byte := 0x06
abbrev selFirmware : Byte := 0x07
abbrev selPeriod : Byte := 0x08

/-- Each byte of the broadcast device id 0xFFFF (R174). -/
abbrev broadcastByte : Byte := 0xFF

/-- The greatest accepted period (R7, R169). -/
abbrev maxPeriod : Int := 30

/-- A payload of zeros but for offsets 3 and 4. -/
def payloadOf (p3 p4 : Byte) : Payload :=
  ⟨p3, p4, 0, 0, 0, 0, 0, 0, 0, 0, 0, 0⟩

/-- The default of TEMPLATE_PAYLOAD, the table of R163: PRESUMED (log 6), since the spec marks it as general knowledge
(G1). It is the reset value of State's `templates` and what the outbound rows of opcode_table.json hold (R90).
Offset 4 of `setPeriod` has no default: the parameter stands there at every call (R167). -/
def defaultTemplates : Templates where
  sleep := payloadOf 0x01 0x00
  wake := payloadOf 0x01 0x01
  qfw := payloadOf 0x00 0x00
  setPeriod := payloadOf 0x01 0x00

end Sys2Proof.Machine
end

