-- ==== Sys2Proof/Machine/Flags.lean ====
section
/-! DEFINITION. The checksum accumulator and the block's one flag, `csum_valid` (41_checksum.md). -/

namespace Sys2Proof.Machine

/-- `Acc(b)`: addition of two unsigned bytes modulo 256, the carry discarded (R130). -/
def acc (sum b : Byte) : Byte := sum + b

/-- `Csum(s)`: the sum modulo 256 of a byte sequence (R132). -/
def csum (s : List Byte) : Byte := s.foldl acc 0

/-- The value that R119 writes into `csum_valid`: whether the received checksum byte equals the accumulator. -/
def csumMatches (b sum : Byte) : Bool := b == sum

end Sys2Proof.Machine
end

