-- ==== Sys2Proof/Machine/CommandFrame.lean ====
section
/-! DEFINITION. Building a command frame (43_command_encoder.md section 2). -/

namespace Sys2Proof.Machine

/-- The payload bytes in the order of their offsets, 3 to 14. -/
def payloadBytes (P : Payload) : List Byte :=
  [P.p3, P.p4, P.p5, P.p6, P.p7, P.p8, P.p9, P.p10, P.p11, P.p12, P.p13, P.p14]

/-- The fifteen summed bytes of a command frame, offsets 2 to 16: selector, payload, broadcast device id (R58, R172). -/
def summedRegion (sel : Byte) (P : Payload) : List Byte :=
  sel :: payloadBytes P ++ [broadcastByte, broadcastByte]

/-- A command frame whose byte at offset 17 is `cs`. -/
def frameWith (sel : Byte) (P : Payload) (cs : Byte) : List Byte :=
  startMarker :: tagCommand :: summedRegion sel P ++ [cs, endMarker]

/-- `Build(sel, P)`: the frame with its checksum computed over offsets 2 to 16 (R162, R172). -/
def build (sel : Byte) (P : Payload) : List Byte :=
  frameWith sel P (csum (summedRegion sel P))

end Sys2Proof.Machine
end

