-- ==== Sys2Proof/Machine/Operands.lean ====
section
/-! DEFINITION. Field assembly, byte by byte and whole, and the bytes a field is sent as (42_field_accumulator.md section 1,
30_encoding.md R78 to R80, R89). -/

namespace Sys2Proof.Machine

/-- Step 1 of `Le16`: the low byte, zero-extended (R140). -/
def le16Lo (lo : Byte) : Word16 := lo.setWidth 16

/-- Step 2 of `Le16`: `r[7:0] | (hi << 8)` (R140). -/
def le16Hi (r : Word16) (hi : Byte) : Word16 := (r &&& 0x00FF#16) ||| (hi.setWidth 16 <<< 8)

/-- `Le16(lo, hi)`, "combine as low | high<<8" (R50, R78, R140). -/
def le16 (lo hi : Byte) : Word16 := lo.setWidth 16 ||| (hi.setWidth 16 <<< 8)

/-- Step 1 of `Le24` (R141). -/
def le24B0 (b0 : Byte) : Word24 := b0.setWidth 24

/-- Step 2 of `Le24`: `r[7:0] | (b1 << 8)` (R141). -/
def le24B1 (r : Word24) (b1 : Byte) : Word24 := (r &&& 0x0000FF#24) ||| (b1.setWidth 24 <<< 8)

/-- Step 3 of `Le24`: `r[15:0] | (b2 << 16)` (R141). -/
def le24B2 (r : Word24) (b2 : Byte) : Word24 := (r &&& 0x00FFFF#24) ||| (b2.setWidth 24 <<< 16)

/-- `Le24(b0, b1, b2)` (R79, R141). -/
def le24 (b0 b1 b2 : Byte) : Word24 :=
  b0.setWidth 24 ||| (b1.setWidth 24 <<< 8) ||| (b2.setWidth 24 <<< 16)

/-- `lo(v) = v mod 256` of a 16-bit field (R89). -/
def lo16 (v : Word16) : Byte := v.extractLsb' 0 8

/-- `hi(v) = v >> 8` of a 16-bit field (R89). -/
def hi16 (v : Word16) : Byte := v.extractLsb' 8 8

/-- `fw[7:0]` (R89). -/
def byte0of24 (v : Word24) : Byte := v.extractLsb' 0 8

/-- `fw[15:8]` (R89). -/
def byte1of24 (v : Word24) : Byte := v.extractLsb' 8 8

/-- `fw[23:16]` (R89). -/
def byte2of24 (v : Word24) : Byte := v.extractLsb' 16 8

/-- `zext_32` of the 24-bit firmware field (R79, R145). -/
def zext32 (v : Word24) : Word32 := v.setWidth 32

/-- `zext_8(p)` of a parameter that is already known to lie in 0 to 255 (R167). -/
def zext8 (p : Int) : Byte := BitVec.ofInt 8 p

end Sys2Proof.Machine
end

