-- ==== Sys2Proof/Syntax.lean ====
section
/-! DEFINITION. The instructions: one constructor per row of spec/opcode_table.json, and the raw lines of work from which
they are decoded (30_encoding.md R70 to R90). -/

namespace Sys2Proof

/-- A command selector after decoding (R86): the four commands, and a fifth constructor that carries the raw code of an
unknown selector, as R86 allows. -/
inductive Command where
  | sleep
  | wake
  | qfw
  | setPeriod
  | unknown (code : Nat)
  deriving DecidableEq, Repr

/-- One constructor per row of the opcode table. The five inbound kinds carry every byte the row's mask leaves free, as
fields (R72 to R76), the checksum byte `cs` among them. -/
inductive Instr where
  /-- MEAS: a measurement report (R72). -/
  | meas (pm25 pm10 id : Word16) (cs : Byte)
  /-- ACK05: a set-device-id acknowledgement, two filler bytes (R73). -/
  | ack05 (fill0 fill1 : Byte) (id : Word16) (cs : Byte)
  /-- ACK06: a sleep/wake acknowledgement (R74). -/
  | ack06 (mode val : Byte) (id : Word16) (cs : Byte)
  /-- ACK07: a firmware-version acknowledgement (R75). -/
  | ack07 (fw : Word24) (id : Word16) (cs : Byte)
  /-- ACK08: a reporting-period acknowledgement (R76). -/
  | ack08 (mode period : Byte) (id : Word16) (cs : Byte)
  /-- SLEEP: the command frame of `encode(Sleep, _)` (R164). -/
  | sleep
  /-- WAKE: the command frame of `encode(Wake, _)` (R165). -/
  | wake
  /-- QFW: the command frame of `encode(QueryFirmwareVersion, _)` (R166). -/
  | qfw
  /-- SETPERIOD: the command frame of `encode(SetReportingPeriod, p)` (R167). `cs` is the checksum byte that the row's
  word happens to hold at offset 17, where its mask is 00; the meaning computes the checksum anew (R167, R211; log 11). -/
  | setPeriod (p : Int) (cs : Byte)
  /-- FEED b: one `feed` call (R88, R100). -/
  | feed (b : Byte)
  /-- ENC cmd, p: one `encode` call (R88, R160). -/
  | enc (cmd : Command) (p : Int)
  /-- RESET: the `reset` operation (R88, R200). -/
  | reset
  deriving DecidableEq, Repr

/-- The row's mnemonic in spec/opcode_table.json. -/
def Instr.mnemonic : Instr → String
  | .meas _ _ _ _ => "MEAS"
  | .ack05 _ _ _ _ => "ACK05"
  | .ack06 _ _ _ _ => "ACK06"
  | .ack07 _ _ _ => "ACK07"
  | .ack08 _ _ _ _ => "ACK08"
  | .sleep => "SLEEP"
  | .wake => "WAKE"
  | .qfw => "QFW"
  | .setPeriod _ _ => "SETPERIOD"
  | .feed _ => "FEED"
  | .enc _ _ => "ENC"
  | .reset => "RESET"

/-- The encoded form of one line (R88): the bytes of a FEED line or of a frame row, the pair (CMD_CODE, p) of an ENC line, or
a RESET line, which has no encoding of its own. DESIGN CHOICE (log 3). -/
inductive Code where
  | word (bytes : List Byte)
  | pair (cmdCode : Nat) (p : Int)
  | reset
  deriving DecidableEq, Repr

/-- One line of work that a collaborator hands to the block, with the number of the stream it belongs to; the transport
"routes bytes explicitly" to the instance of that stream (R195). DESIGN CHOICE (log 2, log 3). -/
structure Line where
  stream : Nat
  code : Code
  deriving DecidableEq, Repr

/-- Why a word of bytes is no row of the opcode table: the decoder's rejections, by name. -/
inductive WordError where
  /-- No row has this many bytes. -/
  | noSuchLength (n : Nat)
  /-- Offset 0 is not the start marker (R70). -/
  | badStart (b : Byte)
  /-- Offset 1 is no source tag, or not the outbound tag, of a row of this length (R82, R83, R58). -/
  | badTag (b : Byte)
  /-- Offset 2 is no sub-discriminator of a row of this length (R82, R83). -/
  | badSub (b : Byte)
  /-- The last offset is not the end marker (R70). -/
  | badEnd (b : Byte)
  /-- Offset 2 of a command frame is no command-family selector (R58, R87). -/
  | badSelector (b : Byte)
  /-- Offsets 15 and 16 of a command frame are not the broadcast device id (R87, R174). -/
  | badDeviceId (lo hi : Byte)
  /-- The payload of a command frame is none that the table's rows hold for this selector (R90). -/
  | badPayload (sel : Byte)
  /-- The checksum byte of a SLEEP, WAKE or QFW frame is not the one of its row (R90). -/
  | badChecksum (b : Byte)
  deriving DecidableEq, Repr

end Sys2Proof
end

