-- ==== Sys2Proof/WellFormed.lean ====
section
/-! DEFINITION. Which instructions have an encoding: the two operands that are wider than the place the encoding gives them. -/

namespace Sys2Proof

/-- A selector is well formed when an `unknown` code is outside 0 to 3 (R86, R88: "UNKNOWN(n) for a selector code n outside 0
to 3"). -/
def Command.wellFormed : Command → Bool
  | .unknown n => decide (3 < n)
  | .sleep => true
  | .wake => true
  | .qfw => true
  | .setPeriod => true

/-- An instruction is well formed when its operands fit their encoding: SETPERIOD's parameter is one byte at offset 4 of
its word (R77), and an ENC selector is well formed. Every other operand has the exact width of its field. -/
def WellFormed : Instr → Bool
  | .setPeriod p _ => decide (0 ≤ p) && decide (p ≤ 255)
  | .enc c _ => c.wellFormed
  | .meas _ _ _ _ => true
  | .ack05 _ _ _ _ => true
  | .ack06 _ _ _ _ => true
  | .ack07 _ _ _ => true
  | .ack08 _ _ _ _ => true
  | .sleep => true
  | .wake => true
  | .qfw => true
  | .feed _ => true
  | .reset => true

end Sys2Proof
end

