-- ==== Sys2Proof/Decode.lean ====
section
/-! DEFINITION. Decoding and encoding (30_encoding.md): the decoder, total on any bytes and rejecting by name; the encoder,
from the same format rules; the rows of the opcode table as masks and patterns; the pseudo-operations of R89. -/

namespace Sys2Proof

open Sys2Proof.Machine

/-! ## The decoder -/

/-- The words of 9 bytes: ACK05, ACK06, ACK08 (R73, R74, R76, R82). The fixed bytes decide the kind; the checksum and the
ACK06 mode are no part of it (R90: they are constraints), they are operands (log 10). -/
def decode9 (b0 b1 b2 b3 b4 b5 b6 b7 b8 : Byte) : Except WordError Instr :=
  if b0 ≠ startMarker then .error (.badStart b0)
  else if b1 ≠ tagAck then .error (.badTag b1)
  else if b8 ≠ endMarker then .error (.badEnd b8)
  else if b2 = sub05 then .ok (.ack05 b3 b4 (le16 b5 b6) b7)
  else if b2 = sub06 then .ok (.ack06 b3 b4 (le16 b5 b6) b7)
  else if b2 = sub08 then .ok (.ack08 b3 b4 (le16 b5 b6) b7)
  else .error (.badSub b2)

/-- The words of 10 bytes: MEAS and ACK07 (R72, R75, R82). -/
def decode10 (b0 b1 b2 b3 b4 b5 b6 b7 b8 b9 : Byte) : Except WordError Instr :=
  if b0 ≠ startMarker then .error (.badStart b0)
  else if b9 ≠ endMarker then .error (.badEnd b9)
  else if b1 = tagMeas then .ok (.meas (le16 b2 b3) (le16 b4 b5) (le16 b6 b7) b8)
  else if b1 = tagAck then
    if b2 = sub07 then .ok (.ack07 (le24 b3 b4 b5) (le16 b6 b7) b8) else .error (.badSub b2)
  else .error (.badTag b1)

/-- A command frame's payload, selector and checksum byte, once its markers, tag and device id are checked. The table's
rows hold the default payloads (R90, log 11). The mask of SLEEP, WAKE and QFW covers every byte; SETPERIOD's leaves
offsets 4 and 17 free. -/
def decodeCommand (sel : Byte) (P : Payload) (cs : Byte) : Except WordError Instr :=
  if sel = selSleepWake then
    if P = defaultTemplates.sleep then
      if cs = csum (summedRegion sel P) then .ok .sleep else .error (.badChecksum cs)
    else if P = defaultTemplates.wake then
      if cs = csum (summedRegion sel P) then .ok .wake else .error (.badChecksum cs)
    else .error (.badPayload sel)
  else if sel = selFirmware then
    if P = defaultTemplates.qfw then
      if cs = csum (summedRegion sel P) then .ok .qfw else .error (.badChecksum cs)
    else .error (.badPayload sel)
  else if sel = selPeriod then
    if P = { defaultTemplates.setPeriod with p4 := P.p4 } then .ok (.setPeriod P.p4.toNat cs)
    else .error (.badPayload sel)
  else .error (.badSelector sel)

/-- The words of 19 bytes: the four command frames (R77). -/
def decode19 (b0 b1 sel : Byte) (P : Payload) (idLo idHi cs b18 : Byte) : Except WordError Instr :=
  if b0 ≠ startMarker then .error (.badStart b0)
  else if b1 ≠ tagCommand then .error (.badTag b1)
  else if b18 ≠ endMarker then .error (.badEnd b18)
  else if idLo ≠ broadcastByte ∨ idHi ≠ broadcastByte then .error (.badDeviceId idLo idHi)
  else decodeCommand sel P cs

/-- Decodes a word of bytes. One byte is a FEED line ("The encoding of a FEED line is its byte", R88). -/
def decodeWord : List Byte → Except WordError Instr
  | [b] => .ok (.feed b)
  | [b0, b1, b2, b3, b4, b5, b6, b7, b8] => decode9 b0 b1 b2 b3 b4 b5 b6 b7 b8
  | [b0, b1, b2, b3, b4, b5, b6, b7, b8, b9] => decode10 b0 b1 b2 b3 b4 b5 b6 b7 b8 b9
  | [b0, b1, b2, p3, p4, p5, p6, p7, p8, p9, p10, p11, p12, p13, p14, b15, b16, b17, b18] =>
    decode19 b0 b1 b2 ⟨p3, p4, p5, p6, p7, p8, p9, p10, p11, p12, p13, p14⟩ b15 b16 b17 b18
  | bs => .error (.noSuchLength bs.length)

/-- CMD_CODE: 0 SLEEP, 1 WAKE, 2 QFW, 3 SETPERIOD, every other value an unknown selector (R86). -/
def commandOfCode : Nat → Command
  | 0 => .sleep
  | 1 => .wake
  | 2 => .qfw
  | 3 => .setPeriod
  | n => .unknown n

/-- Decodes a line's code (R88). -/
def decode : Code → Except WordError Instr
  | .word bs => decodeWord bs
  | .pair c p => .ok (.enc (commandOfCode c) p)
  | .reset => .ok .reset

/-! ## The encoder -/

/-- The selector's CMD_CODE (R86). -/
def Command.code : Command → Nat
  | .sleep => 0
  | .wake => 1
  | .qfw => 2
  | .setPeriod => 3
  | .unknown n => n

/-- MEAS offsets 2 to 7, the summed bytes (R57, R89). -/
def measRegion (pm25 pm10 id : Word16) : List Byte :=
  [lo16 pm25, hi16 pm25, lo16 pm10, hi16 pm10, lo16 id, hi16 id]

/-- The offsets from 2 to the second device-id byte of ACK05, ACK06 and ACK08: sub-discriminator, two bytes, device id
(R57, R89). -/
def ackRegion (sub b3 b4 : Byte) (id : Word16) : List Byte :=
  [sub, b3, b4, lo16 id, hi16 id]

/-- ACK07 offsets 2 to 7 (R57, R89). -/
def ack07Region (fw : Word24) (id : Word16) : List Byte :=
  [sub07, byte0of24 fw, byte1of24 fw, byte2of24 fw, lo16 id, hi16 id]

/-- An inbound frame: markers, tag, summed region, checksum byte (R57). -/
def inboundFrame (tag : Byte) (region : List Byte) (cs : Byte) : List Byte :=
  startMarker :: tag :: region ++ [cs, endMarker]

/-- The bytes of a MEAS word (R72). -/
def measWord (pm25 pm10 id : Word16) (cs : Byte) : List Byte :=
  inboundFrame tagMeas (measRegion pm25 pm10 id) cs

/-- The bytes of an ACK05 word (R73). -/
def ack05Word (fill0 fill1 : Byte) (id : Word16) (cs : Byte) : List Byte :=
  inboundFrame tagAck (ackRegion sub05 fill0 fill1 id) cs

/-- The bytes of an ACK06 word (R74). -/
def ack06Word (mode val : Byte) (id : Word16) (cs : Byte) : List Byte :=
  inboundFrame tagAck (ackRegion sub06 mode val id) cs

/-- The bytes of an ACK07 word (R75). -/
def ack07Word (fw : Word24) (id : Word16) (cs : Byte) : List Byte :=
  inboundFrame tagAck (ack07Region fw id) cs

/-- The bytes of an ACK08 word (R76). -/
def ack08Word (mode period : Byte) (id : Word16) (cs : Byte) : List Byte :=
  inboundFrame tagAck (ackRegion sub08 mode period id) cs

/-- The encoding of an instruction (R72 to R77, R88). -/
def encode : Instr → Code
  | .meas pm25 pm10 id cs => .word (measWord pm25 pm10 id cs)
  | .ack05 f0 f1 id cs => .word (ack05Word f0 f1 id cs)
  | .ack06 mode val id cs => .word (ack06Word mode val id cs)
  | .ack07 fw id cs => .word (ack07Word fw id cs)
  | .ack08 mode period id cs => .word (ack08Word mode period id cs)
  | .sleep => .word (build selSleepWake defaultTemplates.sleep)
  | .wake => .word (build selSleepWake defaultTemplates.wake)
  | .qfw => .word (build selFirmware defaultTemplates.qfw)
  | .setPeriod p cs => .word (frameWith selPeriod { defaultTemplates.setPeriod with p4 := zext8 p } cs)
  | .feed b => .word [b]
  | .enc c p => .pair c.code p
  | .reset => .reset

/-! ## The rows of the opcode table -/

/-- One row of spec/opcode_table.json: its mnemonic, mask and match (R90). -/
structure Row where
  mnemonic : String
  mask : List Byte
  pattern : List Byte
  deriving DecidableEq, Repr

/-- "a byte sequence f of that length has the kind's fixed bytes when f AND mask == match, byte by byte" (R90). -/
def Row.fits (r : Row) (bs : List Byte) : Bool :=
  decide (bs.length = r.mask.length) && decide (List.zipWith (· &&& ·) bs r.mask = r.pattern)

/-- The five inbound rows. -/
def inboundRows : List Row :=
  [⟨"MEAS", [0xFF, 0xFF, 0, 0, 0, 0, 0, 0, 0, 0xFF], [0xAA, 0xC0, 0, 0, 0, 0, 0, 0, 0, 0xAB]⟩,
   ⟨"ACK05", [0xFF, 0xFF, 0xFF, 0, 0, 0, 0, 0, 0xFF], [0xAA, 0xC5, 0x05, 0, 0, 0, 0, 0, 0xAB]⟩,
   ⟨"ACK06", [0xFF, 0xFF, 0xFF, 0, 0, 0, 0, 0, 0xFF], [0xAA, 0xC5, 0x06, 0, 0, 0, 0, 0, 0xAB]⟩,
   ⟨"ACK07", [0xFF, 0xFF, 0xFF, 0, 0, 0, 0, 0, 0, 0xFF], [0xAA, 0xC5, 0x07, 0, 0, 0, 0, 0, 0, 0xAB]⟩,
   ⟨"ACK08", [0xFF, 0xFF, 0xFF, 0, 0, 0, 0, 0, 0xFF], [0xAA, 0xC5, 0x08, 0, 0, 0, 0, 0, 0xAB]⟩]

/-- The four outbound rows, with the default payloads the table holds (R90). -/
def outboundRows : List Row :=
  [⟨"SLEEP", List.replicate 19 0xFF,
      [0xAA, 0xB4, 0x06, 0x01, 0x00, 0, 0, 0, 0, 0, 0, 0, 0, 0, 0, 0xFF, 0xFF, 0x05, 0xAB]⟩,
   ⟨"WAKE", List.replicate 19 0xFF,
      [0xAA, 0xB4, 0x06, 0x01, 0x01, 0, 0, 0, 0, 0, 0, 0, 0, 0, 0, 0xFF, 0xFF, 0x06, 0xAB]⟩,
   ⟨"QFW", List.replicate 19 0xFF,
      [0xAA, 0xB4, 0x07, 0x00, 0x00, 0, 0, 0, 0, 0, 0, 0, 0, 0, 0, 0xFF, 0xFF, 0x05, 0xAB]⟩,
   ⟨"SETPERIOD",
      [0xFF, 0xFF, 0xFF, 0xFF, 0, 0xFF, 0xFF, 0xFF, 0xFF, 0xFF, 0xFF, 0xFF, 0xFF, 0xFF, 0xFF, 0xFF, 0xFF, 0, 0xFF],
      [0xAA, 0xB4, 0x08, 0x01, 0x00, 0, 0, 0, 0, 0, 0, 0, 0, 0, 0, 0xFF, 0xFF, 0x00, 0xAB]⟩]

/-- The three operation rows, whose mask and match are empty (R90). -/
def operationRows : List Row :=
  [⟨"FEED", [], []⟩, ⟨"ENC", [], []⟩, ⟨"RESET", [], []⟩]

/-- The rows that describe frames. -/
def frameRows : List Row := inboundRows ++ outboundRows

/-- The whole opcode table. -/
def opcodeTable : List Row := frameRows ++ operationRows

/-! ## The table's words -/

/-- The bytes of a number whose bit 0 is the least significant bit of the first byte: `nbits` of them, in whole bytes, and
at least one (a row without bits is read as one byte of zeros; log 12). -/
def tableBytes (nbits w : Nat) : List Byte :=
  (List.range (max 1 ((nbits + 7) / 8))).map fun k => BitVec.ofNat 8 (w >>> (8 * k))

/-- The instruction that the decoder reads from a word of the opcode table. -/
def decodeTableWord (nbits w : Nat) : Option Instr :=
  (decodeWord (tableBytes nbits w)).toOption

/-! ## Pseudo-operations (R89) -/

/-- The pseudo-operations of R89. -/
inductive Pseudo where
  | frameMeas (pm25 pm10 id : Word16)
  | frameAck05 (f0 f1 : Byte) (id : Word16)
  | frameAck06 (mode val : Byte) (id : Word16)
  | frameAck07 (fw : Word24) (id : Word16)
  | frameAck08 (mode period : Byte) (id : Word16)
  | feeds (bytes : List Byte)
  deriving DecidableEq, Repr

/-- The bytes fed, in order: a FRAME line's checksum is the sum of its region (R81, R89). -/
def Pseudo.bytes : Pseudo → List Byte
  | .frameMeas pm25 pm10 id => measWord pm25 pm10 id (csum (measRegion pm25 pm10 id))
  | .frameAck05 f0 f1 id => ack05Word f0 f1 id (csum (ackRegion sub05 f0 f1 id))
  | .frameAck06 mode val id => ack06Word mode val id (csum (ackRegion sub06 mode val id))
  | .frameAck07 fw id => ack07Word fw id (csum (ack07Region fw id))
  | .frameAck08 mode period id => ack08Word mode period id (csum (ackRegion sub08 mode period id))
  | .feeds bytes => bytes

/-- The expansion into FEED lines, one per byte (R89). -/
def Pseudo.expand (p : Pseudo) : List Instr := p.bytes.map Instr.feed

end Sys2Proof
end

