-- ==== Sys2Proof/Machine/State.lean ====
section
/-! DEFINITION. The state: decoder instances with their ten registers (10_state.md), the outputs of the last step, the
parameter TEMPLATE_PAYLOAD and the lines of work still to come. Plain data throughout. -/

namespace Sys2Proof.Machine

/-- The decoder's control state: twenty symbolic values, each "the byte-offset it expects next" (R21). -/
inductive St where
  | sIdle
  | sTag
  | mPm25Lo
  | mPm25Hi
  | mPm10Lo
  | mPm10Hi
  | aSub
  | a05F0
  | a05F1
  | a06Mode
  | a06Val
  | a07B0
  | a07B1
  | a07B2
  | a08Mode
  | a08Val
  | tIdLo
  | tIdHi
  | tCsum
  | tEnd
  deriving DecidableEq, Repr

/-- Which response variant is being decoded (R22). `none` is K_NONE. -/
inductive Kind where
  | none
  | meas
  | ack05
  | ack06
  | ack07
  | ack08
  deriving DecidableEq, Repr

/-- The complete state of one decoder instance: the ten registers of R21 to R30 and nothing else (R20, R31). -/
structure Decoder where
  /-- R21, written `pc` in the spec's pseudocode. -/
  st : St
  /-- R22. -/
  kind : Kind
  /-- R23. -/
  pm25Raw : Word16
  /-- R24. -/
  pm10Raw : Word16
  /-- R25. -/
  firmwareRaw : Word24
  /-- R26. -/
  periodValue : Byte
  /-- R27. -/
  sleepFlag : Byte
  /-- R28. -/
  deviceId : Word16
  /-- R29. -/
  csumAcc : Byte
  /-- R30. -/
  csumValid : Bool
  deriving DecidableEq, Repr

/-- The reset values of the ten registers, the table of R41. -/
def Decoder.reset : Decoder where
  st := .sIdle
  kind := .none
  pm25Raw := 0
  pm10Raw := 0
  firmwareRaw := 0
  periodValue := 0
  sleepFlag := 0
  deviceId := 0
  csumAcc := 0
  csumValid := false

/-- A decoded event as it stands on the output ports: a tagged union, each variant with its own fields only (R39). The
scaled readings and `is_sleep` are functions of these (R39, R147, R149): Machine/Ports.lean. -/
inductive DecodedEvent where
  | measurementReport (pm25Raw pm10Raw deviceId : Word16)
  | sleepWakeAck (sleepFlag : Byte) (deviceId : Word16)
  | firmwareAck (version : Word32) (deviceId : Word16)
  | periodAck (periodSeconds : Byte) (deviceId : Word16)
  deriving DecidableEq, Repr

/-- Why a frame attempt was dropped, with the info that the diagnostic channel records (R180 to R185, R190). -/
inductive DropCause where
  /-- R181: the byte after the start marker. -/
  | badTag (b : Byte)
  /-- R182: the byte after `0xC5`. -/
  | badSubkind (b : Byte)
  /-- R183: the mode-selector of an ACK06 frame. -/
  | badMode (b : Byte)
  /-- R184: the kind of the frame. -/
  | badChecksum (kind : Kind)
  /-- R185: the last byte, the kind and the checksum flag. -/
  | badEnd (b : Byte) (kind : Kind) (csumValid : Bool)
  deriving DecidableEq, Repr

/-- What one `feed` call puts out: an event or none, and a drop cause or none on the diagnostic channel (R100, R190). -/
structure FeedResult where
  event : Option DecodedEvent
  drop : Option DropCause
  deriving DecidableEq, Repr

/-- The encoder's two rejections, with their info (R186). -/
inductive EncError where
  /-- INVALID_PARAMETER (R169): the parameter. -/
  | invalidParameter (p : Int)
  /-- UNSUPPORTED_COMMAND (R170): the selector. -/
  | unsupportedCommand (code : Nat)
  deriving DecidableEq, Repr

/-- The result of an `encode` call: a sequence of bytes, or an error and no bytes (R160, U8). -/
inductive EncResult where
  | frame (bytes : List Byte)
  | rejected (e : EncError)
  deriving DecidableEq, Repr

/-- The machine's state. -/
structure State where
  /-- The decoder instances (R36), sparse: (stream number, registers), numbers rising, no entry equal to the reset
  registers, which are what an unlisted instance holds (log 2). Read and written through `Bank.get` and `Bank.set`. -/
  bank : List (Nat × Decoder)
  /-- The stream number of "the decoder instance being stepped" (00_scope.md section 5.3, R195; log 2). -/
  inst : Nat
  /-- The outputs of the `feed` calls of the last step, one per byte, in order (R39, R60, R190; log 5). -/
  feedOut : List FeedResult
  /-- The result of the `encode` call of the last step, if it made one (R40; log 5). -/
  encOut : Option EncResult
  /-- The parameter TEMPLATE_PAYLOAD (R163, P1; log 6). No step writes it. -/
  templates : Templates
  /-- The lines of work the collaborators still have to hand over, oldest first (R38, R59; log 3). -/
  pending : List Line
  deriving DecidableEq, Repr

/-- The machine right after reset: every decoder instance at R41's values, no output asserted (R41), the default
TEMPLATE_PAYLOAD (R163; log 6), nothing pending. -/
def State.reset : State where
  bank := []
  inst := 0
  feedOut := []
  encOut := none
  templates := defaultTemplates
  pending := []

/-- Why the machine stops: never. "The decoder has no error state, no halted state and no stuck state" (R122), and a
rejected `encode` call is a result (R186). No constructor. -/
inductive Fault where
  deriving DecidableEq, Repr

/-- Why an instruction has no meaning: no instruction is without one, and no step is refused. -/
inductive Refusal where
  /-- An arm of `exec` that has no meaning yet. No arm raises it. Safe. -/
  | notModelled (mnemonic : String)
  deriving DecidableEq, Repr

end Sys2Proof.Machine
end

