-- ==== Sys2Proof/Machine/Events.lean ====
section
/-! DEFINITION. The construction of events from the registers (42_field_accumulator.md section 2). -/

namespace Sys2Proof.Machine

/-- `Event(K_MEAS)` (R143). -/
def measEvent (d : Decoder) : DecodedEvent := .measurementReport d.pm25Raw d.pm10Raw d.deviceId

/-- `Event(K_ACK06)` (R144). -/
def ack06Event (d : Decoder) : DecodedEvent := .sleepWakeAck d.sleepFlag d.deviceId

/-- `Event(K_ACK07)`: the version is the firmware field zero-extended to 32 bits (R145). -/
def ack07Event (d : Decoder) : DecodedEvent := .firmwareAck (zext32 d.firmwareRaw) d.deviceId

/-- `Event(K_ACK08)` (R146). -/
def ack08Event (d : Decoder) : DecodedEvent := .periodAck d.periodValue d.deviceId

/-- The event of a valid frame (R120): none for ACK05 (R150). K_NONE has no event rule; it emits nothing, in states that
no run reaches (log 13). -/
def eventOf (d : Decoder) : Option DecodedEvent :=
  match d.kind with
  | .none => none
  | .meas => some (measEvent d)
  | .ack05 => none
  | .ack06 => some (ack06Event d)
  | .ack07 => some (ack07Event d)
  | .ack08 => some (ack08Event d)

end Sys2Proof.Machine
end

