-- ==== Sys2Proof/Machine/Ops.lean ====
section
/-! DEFINITION. The shared operations: the bank of decoder instances, the updates of State, `Resync()`, and the block's one
way of taking an exception, the drop (60_exceptions.md R189). -/

namespace Sys2Proof.Machine

/-! ## The bank of decoder instances (R36; log 2) -/

/-- The registers of instance `n`; an unlisted instance holds the reset registers. -/
def Bank.get : List (Nat × Decoder) → Nat → Decoder
  | [], _ => Decoder.reset
  | (k, d) :: rest, n => if k = n then d else Bank.get rest n

/-- The bank without an entry for instance `n`. -/
def Bank.erase : List (Nat × Decoder) → Nat → List (Nat × Decoder)
  | [], _ => []
  | (k, d) :: rest, n => if k = n then Bank.erase rest n else (k, d) :: Bank.erase rest n

/-- An entry put before the first one of a greater number. -/
def Bank.insert : List (Nat × Decoder) → Nat → Decoder → List (Nat × Decoder)
  | [], n, d => [(n, d)]
  | (k, e) :: rest, n, d => if n < k then (n, d) :: (k, e) :: rest else (k, e) :: Bank.insert rest n d

/-- Writes the registers of instance `n`, keeping the canonical form: reset registers are not listed. -/
def Bank.set (bank : List (Nat × Decoder)) (n : Nat) (d : Decoder) : List (Nat × Decoder) :=
  if d = Decoder.reset then Bank.erase bank n else Bank.insert (Bank.erase bank n) n d

/-- Whether every entry's number is above `m` and the numbers rise, and no entry holds the reset registers. -/
def Bank.wfAbove : Nat → List (Nat × Decoder) → Bool
  | _, [] => true
  | m, (k, d) :: rest => decide (m < k) && decide (d ≠ Decoder.reset) && Bank.wfAbove k rest

/-- The canonical form of the bank: numbers strictly rising, no entry equal to what an unlisted instance holds. -/
def Bank.wf : List (Nat × Decoder) → Bool
  | [] => true
  | (k, d) :: rest => decide (d ≠ Decoder.reset) && Bank.wfAbove k rest

/-- The registers of instance `n` in a state. -/
def State.decoderAt (s : State) (n : Nat) : Decoder := Bank.get s.bank n

/-- The registers of the instance being stepped. -/
def State.dec (s : State) : Decoder := s.decoderAt s.inst

/-! ## Updates of the state -/

/-- Writes the registers of the instance being stepped. No other instance is touched (R36). -/
def State.setDec (s : State) (d : Decoder) : State := { s with bank := Bank.set s.bank s.inst d }

/-- The outputs of a step that made `feed` calls (R39, R190). -/
def State.withFeedOut (s : State) (rs : List FeedResult) : State := { s with feedOut := rs, encOut := none }

/-- The outputs of a step that made an `encode` call (R40). -/
def State.withEncOut (s : State) (r : EncResult) : State := { s with feedOut := [], encOut := some r }

/-- No output asserted. -/
def State.quiet (s : State) : State := { s with feedOut := [], encOut := none }

/-- The next line of work taken: the rest stays pending, and its stream's instance is the one being stepped (R195). -/
def State.take (s : State) (stream : Nat) (rest : List Line) : State := { s with pending := rest, inst := stream }

/-! ## Resynchronisation and drops -/

/-- `Resync()`: every register cleared, `st` to S_IDLE (R121). -/
def resync (d : Decoder) : Decoder :=
  { d with
    kind := .none, pm25Raw := 0, pm10Raw := 0, firmwareRaw := 0
    periodValue := 0, sleepFlag := 0, deviceId := 0
    csumAcc := 0, csumValid := false
    st := .sIdle }

/-- The output of a `feed` call that emits nothing and raises nothing. -/
def FeedResult.silent : FeedResult := ⟨none, none⟩

/-- A `feed` call's registers and output when it neither emits nor drops. -/
def silently (d : Decoder) : Decoder × FeedResult := (d, .silent)

/-- TAKING AN EXCEPTION: `raise` of a drop cause. "A drop saves nothing and vectors nowhere. Its whole effect is
Resync()"; no event, and the cause on the diagnostic channel (R189, R190). There is no return from it: after a drop the
decoder is in S_IDLE, "and the very next feed call is treated in the normal way" (R191). -/
def raiseDrop (c : DropCause) (d : Decoder) : Decoder × FeedResult := (resync d, ⟨none, some c⟩)

end Sys2Proof.Machine
end

