-- ==== Sys2Proof/Machine/FrameDecoder.lean ====
section
/-! DEFINITION. The Frame Decoder: one definition for the rule of each of the twenty states, and the `feed` operation
(40_decoder_fsm.md). -/

namespace Sys2Proof.Machine

/-! ## Header states -/

/-- S_IDLE (R101): a byte other than the start marker is ignored. -/
def feedIdle (d : Decoder) (b : Byte) : Decoder × FeedResult :=
  if b = startMarker then silently { d with st := .sTag } else silently { d with st := .sIdle }

/-- S_TAG (R102): the source tag, not summed. -/
def feedTag (d : Decoder) (b : Byte) : Decoder × FeedResult :=
  if b = tagMeas then silently { d with kind := .meas, st := .mPm25Lo }
  else if b = tagAck then silently { d with st := .aSub }
  else raiseDrop (.badTag b) d

/-! ## Measurement path -/

/-- M_PM25_LO (R103). -/
def feedPm25Lo (d : Decoder) (b : Byte) : Decoder × FeedResult :=
  silently { d with pm25Raw := le16Lo b, csumAcc := acc d.csumAcc b, st := .mPm25Hi }

/-- M_PM25_HI (R104). -/
def feedPm25Hi (d : Decoder) (b : Byte) : Decoder × FeedResult :=
  silently { d with pm25Raw := le16Hi d.pm25Raw b, csumAcc := acc d.csumAcc b, st := .mPm10Lo }

/-- M_PM10_LO (R105). -/
def feedPm10Lo (d : Decoder) (b : Byte) : Decoder × FeedResult :=
  silently { d with pm10Raw := le16Lo b, csumAcc := acc d.csumAcc b, st := .mPm10Hi }

/-- M_PM10_HI (R106). -/
def feedPm10Hi (d : Decoder) (b : Byte) : Decoder × FeedResult :=
  silently { d with pm10Raw := le16Hi d.pm10Raw b, csumAcc := acc d.csumAcc b, st := .tIdLo }

/-! ## Acknowledgement path -/

/-- A_SUB (R107): the sub-discriminator, summed when accepted. -/
def feedSub (d : Decoder) (b : Byte) : Decoder × FeedResult :=
  if b = sub05 then silently { d with kind := .ack05, csumAcc := acc d.csumAcc b, st := .a05F0 }
  else if b = sub06 then silently { d with kind := .ack06, csumAcc := acc d.csumAcc b, st := .a06Mode }
  else if b = sub07 then silently { d with kind := .ack07, csumAcc := acc d.csumAcc b, st := .a07B0 }
  else if b = sub08 then silently { d with kind := .ack08, csumAcc := acc d.csumAcc b, st := .a08Mode }
  else raiseDrop (.badSubkind b) d

/-- A05_F0 (R108): a filler byte, summed and stored nowhere. -/
def feedFill0 (d : Decoder) (b : Byte) : Decoder × FeedResult :=
  silently { d with csumAcc := acc d.csumAcc b, st := .a05F1 }

/-- A05_F1 (R109). -/
def feedFill1 (d : Decoder) (b : Byte) : Decoder × FeedResult :=
  silently { d with csumAcc := acc d.csumAcc b, st := .tIdLo }

/-- A06_MODE (R110): "a mode-selector that must be 0x00 or 0x01"; summed, not stored. -/
def feedMode06 (d : Decoder) (b : Byte) : Decoder × FeedResult :=
  if b = 0x00 ∨ b = 0x01 then silently { d with csumAcc := acc d.csumAcc b, st := .a06Val }
  else raiseDrop (.badMode b) d

/-- A06_VAL (R111). -/
def feedSleepVal (d : Decoder) (b : Byte) : Decoder × FeedResult :=
  silently { d with sleepFlag := b, csumAcc := acc d.csumAcc b, st := .tIdLo }

/-- A07_B0 (R112). -/
def feedFw0 (d : Decoder) (b : Byte) : Decoder × FeedResult :=
  silently { d with firmwareRaw := le24B0 b, csumAcc := acc d.csumAcc b, st := .a07B1 }

/-- A07_B1 (R113). -/
def feedFw1 (d : Decoder) (b : Byte) : Decoder × FeedResult :=
  silently { d with firmwareRaw := le24B1 d.firmwareRaw b, csumAcc := acc d.csumAcc b, st := .a07B2 }

/-- A07_B2 (R114). -/
def feedFw2 (d : Decoder) (b : Byte) : Decoder × FeedResult :=
  silently { d with firmwareRaw := le24B2 d.firmwareRaw b, csumAcc := acc d.csumAcc b, st := .tIdLo }

/-- A08_MODE (R115): every value is accepted; summed, not stored. -/
def feedMode08 (d : Decoder) (b : Byte) : Decoder × FeedResult :=
  silently { d with csumAcc := acc d.csumAcc b, st := .a08Val }

/-- A08_VAL (R116). -/
def feedPeriod (d : Decoder) (b : Byte) : Decoder × FeedResult :=
  silently { d with periodValue := b, csumAcc := acc d.csumAcc b, st := .tIdLo }

/-! ## The tail, common to all kinds -/

/-- T_ID_LO (R117). -/
def feedIdLo (d : Decoder) (b : Byte) : Decoder × FeedResult :=
  silently { d with deviceId := le16Lo b, csumAcc := acc d.csumAcc b, st := .tIdHi }

/-- T_ID_HI (R118): the last byte summed. -/
def feedIdHi (d : Decoder) (b : Byte) : Decoder × FeedResult :=
  silently { d with deviceId := le16Hi d.deviceId b, csumAcc := acc d.csumAcc b, st := .tCsum }

/-- T_CSUM (R119): the comparison is stored; the accumulator is neither changed nor cleared. -/
def feedCsum (d : Decoder) (b : Byte) : Decoder × FeedResult :=
  silently { d with csumValid := csumMatches b d.csumAcc, st := .tEnd }

/-- T_END (R120): the event is built from the registers before they are cleared; a bad end marker is reported before a
checksum mismatch (R187). -/
def feedEnd (d : Decoder) (b : Byte) : Decoder × FeedResult :=
  if b = endMarker ∧ d.csumValid = true then (resync d, ⟨eventOf d, none⟩)
  else if b ≠ endMarker then raiseDrop (.badEnd b d.kind d.csumValid) d
  else raiseDrop (.badChecksum d.kind) d

/-! ## The operation -/

/-- `feed(b)`: exactly one of the rules R101 to R120 applies, the one whose state equals `st` (R100). -/
def feed (d : Decoder) (b : Byte) : Decoder × FeedResult :=
  match d.st with
  | .sIdle => feedIdle d b
  | .sTag => feedTag d b
  | .mPm25Lo => feedPm25Lo d b
  | .mPm25Hi => feedPm25Hi d b
  | .mPm10Lo => feedPm10Lo d b
  | .mPm10Hi => feedPm10Hi d b
  | .aSub => feedSub d b
  | .a05F0 => feedFill0 d b
  | .a05F1 => feedFill1 d b
  | .a06Mode => feedMode06 d b
  | .a06Val => feedSleepVal d b
  | .a07B0 => feedFw0 d b
  | .a07B1 => feedFw1 d b
  | .a07B2 => feedFw2 d b
  | .a08Mode => feedMode08 d b
  | .a08Val => feedPeriod d b
  | .tIdLo => feedIdLo d b
  | .tIdHi => feedIdHi d b
  | .tCsum => feedCsum d b
  | .tEnd => feedEnd d b

/-- The `feed` calls of a byte sequence in order, "the left fold of the feed step over that sequence" (R59), with the output
of each. -/
def feedAll (d : Decoder) : List Byte → Decoder × List FeedResult
  | [] => (d, [])
  | b :: rest => ((feedAll (feed d b).1 rest).1, (feed d b).2 :: (feedAll (feed d b).1 rest).2)

/-- The bytes fed to the instance being stepped. -/
def State.feedBytes (s : State) (bs : List Byte) : State :=
  (s.setDec (feedAll s.dec bs).1).withFeedOut (feedAll s.dec bs).2

end Sys2Proof.Machine
end

