-- ==== Sys2Proof/Machine/Inbound.lean ====
section
/-! DEFINITION. The meanings of the inbound rows MEAS, ACK05, ACK06, ACK07, ACK08: the frame's bytes are fed in order to the
instance being stepped, whatever its state (R89, R59), so a frame that breaks a constraint of its row is dropped where
the state rules drop it (log 10). -/

namespace Sys2Proof.Machine

/-- MEAS (R72; R101 to R106, R117 to R120, R143). -/
def execMeas (pm25 pm10 id : Word16) (cs : Byte) (s : State) : Host.Outcome State Fault Refusal :=
  .next (s.feedBytes (measWord pm25 pm10 id cs))

/-- ACK05 (R73; R107 to R109, R150). -/
def execAck05 (fill0 fill1 : Byte) (id : Word16) (cs : Byte) (s : State) : Host.Outcome State Fault Refusal :=
  .next (s.feedBytes (ack05Word fill0 fill1 id cs))

/-- ACK06 (R74; R107, R110, R111, R144). -/
def execAck06 (mode val : Byte) (id : Word16) (cs : Byte) (s : State) : Host.Outcome State Fault Refusal :=
  .next (s.feedBytes (ack06Word mode val id cs))

/-- ACK07 (R75; R107, R112 to R114, R145). -/
def execAck07 (fw : Word24) (id : Word16) (cs : Byte) (s : State) : Host.Outcome State Fault Refusal :=
  .next (s.feedBytes (ack07Word fw id cs))

/-- ACK08 (R76; R107, R115, R116, R146). -/
def execAck08 (mode period : Byte) (id : Word16) (cs : Byte) (s : State) : Host.Outcome State Fault Refusal :=
  .next (s.feedBytes (ack08Word mode period id cs))

end Sys2Proof.Machine
end

