-- ==== Sys2Proof/Machine/CommandEncoder.lean ====
section
/-! DEFINITION. The Command Encoder: a function of TEMPLATE_PAYLOAD and its two arguments (43_command_encoder.md). -/

namespace Sys2Proof.Machine

/-- `encode(Sleep, _)` (R164). -/
def encodeSleep (T : Templates) : EncResult := .frame (build selSleepWake T.sleep)

/-- `encode(Wake, _)` (R165). -/
def encodeWake (T : Templates) : EncResult := .frame (build selSleepWake T.wake)

/-- `encode(QueryFirmwareVersion, _)` (R166). -/
def encodeQfw (T : Templates) : EncResult := .frame (build selFirmware T.qfw)

/-- `encode(SetReportingPeriod, p)` (R167): the range check of R169, then the frame with `p` at offset 4 and its checksum
computed after `p` is in place. -/
def encodeSetPeriod (T : Templates) (p : Int) : EncResult :=
  if 0 ≤ p ∧ p ≤ maxPeriod then .frame (build selPeriod { T.setPeriod with p4 := zext8 p })
  else .rejected (.invalidParameter p)

/-- `encode(command, parameter)` (R160): the parameter of a command other than SETPERIOD is not looked at, an unknown
selector is rejected (R170, R171). -/
def encodeCommand (T : Templates) (c : Command) (p : Int) : EncResult :=
  match c with
  | .sleep => encodeSleep T
  | .wake => encodeWake T
  | .qfw => encodeQfw T
  | .setPeriod => encodeSetPeriod T p
  | .unknown n => .rejected (.unsupportedCommand n)

end Sys2Proof.Machine
end

