-- ==== Sys2Proof/Machine/Operations.lean ====
section
/-! DEFINITION. The meanings of the operation rows FEED, ENC and RESET. -/

namespace Sys2Proof.Machine

/-- FEED b: one `feed` call on the instance being stepped (R100). -/
def execFeed (b : Byte) (s : State) : Host.Outcome State Fault Refusal :=
  .next (s.feedBytes [b])

/-- FEEDS b0 ... bn (R89): one `feed` call per byte, in order. Not a row of the opcode table; the bytes of a pending word that is
no row are run so (log 15). -/
def execFeeds (bs : List Byte) (s : State) : Host.Outcome State Fault Refusal :=
  .next (s.feedBytes bs)

/-- ENC cmd, p: one `encode` call; no decoder is read or written (R160, R161). -/
def execEnc (c : Command) (p : Int) (s : State) : Host.Outcome State Fault Refusal :=
  .next (s.withEncOut (encodeCommand s.templates c p))

/-- RESET: `Resync()` on the instance being stepped, in any state; no event, no drop cause (R200, R201). -/
def execReset (s : State) : Host.Outcome State Fault Refusal :=
  .next (s.setDec (resync s.dec)).quiet

end Sys2Proof.Machine
end

