-- ==== Sys2Proof/Machine/Outbound.lean ====
section
/-! DEFINITION. The meanings of the outbound rows SLEEP, WAKE, QFW, SETPERIOD: the `encode` call that returns that frame. -/

namespace Sys2Proof.Machine

/-- SLEEP (R164). -/
def execSleep (s : State) : Host.Outcome State Fault Refusal :=
  .next (s.withEncOut (encodeSleep s.templates))

/-- WAKE (R165). -/
def execWake (s : State) : Host.Outcome State Fault Refusal :=
  .next (s.withEncOut (encodeWake s.templates))

/-- QFW (R166). -/
def execQfw (s : State) : Host.Outcome State Fault Refusal :=
  .next (s.withEncOut (encodeQfw s.templates))

/-- SETPERIOD p (R167). The checksum byte of the row's word is not used: "This recomputation must happen on every call"
(R167, R211; log 11). -/
def execSetPeriod (p : Int) (_cs : Byte) (s : State) : Host.Outcome State Fault Refusal :=
  .next (s.withEncOut (encodeSetPeriod s.templates p))

end Sys2Proof.Machine
end

