-- ==== Sys2Proof/Machine/Dispatch.lean ====
section
/-! DEFINITION. One arm per constructor of Instr. -/

namespace Sys2Proof.Machine

def exec (i : Instr) (s : State) : Host.Outcome State Fault Refusal :=
  match i with
  | .meas pm25 pm10 id cs => Sys2Proof.Machine.execMeas pm25 pm10 id cs s
  | .ack05 fill0 fill1 id cs => Sys2Proof.Machine.execAck05 fill0 fill1 id cs s
  | .ack06 mode val id cs => Sys2Proof.Machine.execAck06 mode val id cs s
  | .ack07 fw id cs => Sys2Proof.Machine.execAck07 fw id cs s
  | .ack08 mode period id cs => Sys2Proof.Machine.execAck08 mode period id cs s
  | .sleep => Sys2Proof.Machine.execSleep s
  | .wake => Sys2Proof.Machine.execWake s
  | .qfw => Sys2Proof.Machine.execQfw s
  | .setPeriod p cs => Sys2Proof.Machine.execSetPeriod p cs s
  | .feed b => Sys2Proof.Machine.execFeed b s
  | .enc cmd p => Sys2Proof.Machine.execEnc cmd p s
  | .reset => Sys2Proof.Machine.execReset s

end Sys2Proof.Machine
end

