-- ==== Sys2Proof/Machine/Fetch.lean ====
section
/-! DEFINITION. Taking the next line of work, and placing one from outside (log 3). -/

namespace Sys2Proof.Machine

/-- What a line's code asks for: its instruction; or, where its word of bytes is no row of the opcode table, those bytes, as the
line `FEEDS b0 ... bn` of R89 (log 15). -/
def workOf (c : Code) : Except (List Byte) Instr :=
  match c with
  | .word bs =>
    match decodeWord bs with
    | .ok i => .ok i
    | .error _ => .error bs
  | .pair n p => .ok (.enc (commandOfCode n) p)
  | .reset => .ok .reset

/-- What the next step runs: nothing when no line is pending; else what the oldest line asks for, and the state in which it
runs, where the line is taken and its stream's instance is the one stepped. -/
def fetch (s : State) : Option (Except (List Byte) Instr × State) :=
  match s.pending with
  | [] => none
  | l :: rest => some (workOf l.code, s.take l.stream rest)

/-- A line placed before all pending ones, for the instance now being stepped. -/
def State.place (s : State) (c : Code) : State := { s with pending := ⟨s.inst, c⟩ :: s.pending }

end Sys2Proof.Machine
end

