-- ==== Sys2Proof/Machine/Step.lean ====
section
/-! DEFINITION. One step of the machine. -/

namespace Sys2Proof.Machine

/-- One step: the oldest pending line is taken and its instruction run, or, where its word is no row of the opcode table, its
bytes are fed (R89, R122; log 15). With nothing pending, nothing changes but that no output is asserted (R124, R38; log 4). -/
def step (s : State) : Host.Outcome State Fault Refusal :=
  match fetch s with
  | none => .next s.quiet
  | some (.ok i, s') => exec i s'
  | some (.error bs, s') => execFeeds bs s'

/-- The state in which the next step runs the instruction of the opcode table's word `w` of `nbits` bits: that word as the
oldest pending line of the instance being stepped (log 3, log 12). -/
def State.withFetchWord (s : State) (nbits w : Nat) : State := s.place (.word (tableBytes nbits w))

end Sys2Proof.Machine
end

