-- ==== Sys2Proof/Machine/Ports.lean ====
section
/-! DEFINITION. The output ports as functions of a step's outputs: codes, strobes, the scaled readings and the boolean
`is_sleep` (10_state.md R39, R40; 42_field_accumulator.md R147, R149; 60_exceptions.md R180, R186, R190). -/

namespace Sys2Proof.Machine

/-- The scaled reading: the exact rational `raw / 10` (R147; log 8). -/
def scaled (raw : Word16) : ℚ := (raw.toNat : ℚ) / 10

/-- The event's `pm2_5` (R143). Only a measurement report has one (R39). -/
def DecodedEvent.pm25 : DecodedEvent → Option ℚ
  | .measurementReport pm25Raw _ _ => some (scaled pm25Raw)
  | .sleepWakeAck _ _ => none
  | .firmwareAck _ _ => none
  | .periodAck _ _ => none

/-- The event's `pm10` (R143). -/
def DecodedEvent.pm10 : DecodedEvent → Option ℚ
  | .measurementReport _ pm10Raw _ => some (scaled pm10Raw)
  | .sleepWakeAck _ _ => none
  | .firmwareAck _ _ => none
  | .periodAck _ _ => none

/-- The event's `is_sleep`: IS_SLEEP_OF applied to the raw byte (R144, R149; the function is free, log 7). -/
def DecodedEvent.isSleep : DecodedEvent → Option Bool
  | .sleepWakeAck sleepFlag _ => some (Config.isSleepOf sleepFlag)
  | .measurementReport _ _ _ => none
  | .firmwareAck _ _ => none
  | .periodAck _ _ => none

/-- Every event carries `device_id` (R148). -/
def DecodedEvent.deviceId : DecodedEvent → Word16
  | .measurementReport _ _ id => id
  | .sleepWakeAck _ id => id
  | .firmwareAck _ id => id
  | .periodAck _ id => id

/-- EV_CODE, the port `ev_kind[1:0]` (R39; log 9). -/
def DecodedEvent.code : DecodedEvent → BitVec 2
  | .measurementReport _ _ _ => 0
  | .sleepWakeAck _ _ => 1
  | .firmwareAck _ _ => 2
  | .periodAck _ _ => 3

/-- The two classes of the error taxonomy that a drop can belong to (R180). -/
inductive DropClass where
  | framingError
  | checksumMismatch
  deriving DecidableEq, Repr

/-- The class of a drop cause: the first taxonomy entry covers four of the five (R180). -/
def DropCause.errorClass : DropCause → DropClass
  | .badTag _ => .framingError
  | .badSubkind _ => .framingError
  | .badMode _ => .framingError
  | .badChecksum _ => .checksumMismatch
  | .badEnd _ _ _ => .framingError

/-- The port `drop_code[2:0]` (R180, R190; log 18). -/
def DropCause.code : DropCause → BitVec 3
  | .badTag _ => 1
  | .badSubkind _ => 2
  | .badMode _ => 3
  | .badChecksum _ => 4
  | .badEnd _ _ _ => 5

/-- The strobe `ev_valid`: asserted in the `feed` calls that emit (R39). -/
def FeedResult.evValid (r : FeedResult) : Bool := r.event.isSome

/-- The strobe `drop_valid`: asserted in the `feed` calls that raise a drop cause (R190). -/
def FeedResult.dropValid (r : FeedResult) : Bool := r.drop.isSome

/-- The port `enc_ok` (R40). -/
def EncResult.ok : EncResult → Bool
  | .frame _ => true
  | .rejected _ => false

/-- The port `enc_err`: 1 INVALID_PARAMETER, 2 UNSUPPORTED_COMMAND (R186). -/
def EncError.code : EncError → Nat
  | .invalidParameter _ => 1
  | .unsupportedCommand _ => 2

/-- The events of the last step, in order: what the event sink is given (R39, R60). -/
def State.events (s : State) : List DecodedEvent := s.feedOut.filterMap (·.event)

/-- The drop causes of the last step, in order: what the diagnostic channel shows (R190). -/
def State.drops (s : State) : List DropCause := s.feedOut.filterMap (·.drop)

end Sys2Proof.Machine
end

