-- ==== Sys2Proof/Safety.lean ====
section
/-! DEFINITION. The terms in which claims speak of a good run: valid frames and the event each stands for, told from the
offset maps and not from the state machine (R57, R134); the registers that may hold data in each state (R33); the
invariant of the whole machine. -/

namespace Sys2Proof.Machine

/-! ## Valid frames -/

/-- The length of a kind's frame (R57). -/
def Kind.length : Kind → Nat
  | .none => 0
  | .meas => 10
  | .ack05 => 9
  | .ack06 => 9
  | .ack07 => 10
  | .ack08 => 9

/-- The byte of a frame at an offset. -/
def byteAt (f : List Byte) (offset : Nat) : Byte := f.getD offset 0

/-- Whether the bytes at offsets 1 and 2 are the discriminators of the kind (R83). -/
def Kind.discriminatedBy (f : List Byte) : Kind → Bool
  | .none => false
  | .meas => byteAt f 1 == 0xC0
  | .ack05 => byteAt f 1 == 0xC5 && byteAt f 2 == 0x05
  | .ack06 => byteAt f 1 == 0xC5 && byteAt f 2 == 0x06
  | .ack07 => byteAt f 1 == 0xC5 && byteAt f 2 == 0x07
  | .ack08 => byteAt f 1 == 0xC5 && byteAt f 2 == 0x08

/-- The bytes from offset 2 up to and including the second device-id byte (R131, R134: `f[2 .. L-3]`). -/
def payloadRegion (f : List Byte) : List Byte := (f.drop 2).take (f.length - 4)

/-- `f` is a valid frame of kind `k` (R134). -/
def validFrame (k : Kind) (f : List Byte) : Bool :=
  decide (k ≠ .none) && decide (f.length = k.length)
    && byteAt f 0 == 0xAA && k.discriminatedBy f
    && (decide (k ≠ .ack06) || byteAt f 3 == 0x00 || byteAt f 3 == 0x01)
    && byteAt f (f.length - 2) == csum (payloadRegion f)
    && byteAt f (f.length - 1) == 0xAB

/-- The device id of a frame: "always the two bytes preceding the checksum" (R28). -/
def frameDeviceId (f : List Byte) : Word16 := le16 (byteAt f (f.length - 4)) (byteAt f (f.length - 3))

/-- The event that a valid frame of kind `k` stands for, read off its offsets (R57, R143 to R146, R150). -/
def frameEvent (k : Kind) (f : List Byte) : Option DecodedEvent :=
  match k with
  | .none => none
  | .meas =>
    some (.measurementReport (le16 (byteAt f 2) (byteAt f 3)) (le16 (byteAt f 4) (byteAt f 5)) (frameDeviceId f))
  | .ack05 => none
  | .ack06 => some (.sleepWakeAck (byteAt f 4) (frameDeviceId f))
  | .ack07 =>
    some (.firmwareAck (zext32 (le24 (byteAt f 3) (byteAt f 4) (byteAt f 5))) (frameDeviceId f))
  | .ack08 => some (.periodAck (byteAt f 4) (frameDeviceId f))

/-- The outputs of a frame of `n` bytes whose last byte has the output `last` and whose others have none. -/
def lastOnly (n : Nat) (last : FeedResult) : List FeedResult :=
  List.replicate (n - 1) FeedResult.silent ++ [last]

/-- The least offset of a frame that holds neither a marker, a tag, a sub-discriminator nor the ACK06 mode-selector; from it
up to the second device-id byte stand the field, filler and device-id bytes (95_test_vectors.md S2). -/
def Kind.firstField : Kind → Nat
  | .none => 0
  | .meas => 2
  | .ack05 => 3
  | .ack06 => 4
  | .ack07 => 3
  | .ack08 => 3

/-- The nineteen bytes of a command frame, written out by offset (R58, R77), with the checksum in the closed form of R172:
`(sel + p3 + ... + p14 + 0xFE) mod 256`. -/
def commandFrame (sel : Byte) (P : Payload) : List Byte :=
  [0xAA, 0xB4, sel, P.p3, P.p4, P.p5, P.p6, P.p7, P.p8, P.p9, P.p10, P.p11, P.p12, P.p13, P.p14, 0xFF, 0xFF,
   sel + (P.p3 + P.p4 + P.p5 + P.p6 + P.p7 + P.p8 + P.p9 + P.p10 + P.p11 + P.p12 + P.p13 + P.p14) + 0xFE, 0xAB]

/-! ## Runs -/

/-- `s` after one `feed` call that left the registers `d` in the instance being stepped and put out `r`: nothing else
differs, and no `encode` result stands on the ports. -/
def State.fed (s : State) (d : Decoder) (r : FeedResult) : State := (s.setDec d).withFeedOut [r]

/-- How many `feed` calls an instruction makes: one per byte of its frame (R126). -/
def feedCalls : Instr → Nat
  | .meas _ _ _ _ => 10
  | .ack05 _ _ _ _ => 9
  | .ack06 _ _ _ _ => 9
  | .ack07 _ _ _ => 10
  | .ack08 _ _ _ _ => 9
  | .sleep => 0
  | .wake => 0
  | .qfw => 0
  | .setPeriod _ _ => 0
  | .feed _ => 1
  | .enc _ _ => 0
  | .reset => 0

/-- Instructions run one after another: the last state and the outputs of all `feed` calls, or nothing if one stops. -/
def execSeq : List Instr → State → Option (State × List FeedResult)
  | [], s => some (s, [])
  | i :: rest, s =>
    match exec i s with
    | .next t => (execSeq rest t).map fun r => (r.1, t.feedOut ++ r.2)
    | .fault _ => none
    | .refused _ => none

/-- The FEED lines of a byte sequence on one stream. -/
def feedLines (stream : Nat) (bs : List Byte) : List Line := bs.map fun b => ⟨stream, .word [b]⟩

/-! ## The decoder's registers, state by state -/

/-- The field registers of the kinds other than `k` hold their cleared value (R33, R151). -/
def Decoder.ownFieldsOnly (d : Decoder) : Bool :=
  match d.kind with
  | .none => false
  | .meas => d.firmwareRaw == 0 && d.periodValue == 0 && d.sleepFlag == 0
  | .ack05 => d.pm25Raw == 0 && d.pm10Raw == 0 && d.firmwareRaw == 0 && d.periodValue == 0 && d.sleepFlag == 0
  | .ack06 => d.pm25Raw == 0 && d.pm10Raw == 0 && d.firmwareRaw == 0 && d.periodValue == 0
  | .ack07 => d.pm25Raw == 0 && d.pm10Raw == 0 && d.periodValue == 0 && d.sleepFlag == 0
  | .ack08 => d.pm25Raw == 0 && d.pm10Raw == 0 && d.firmwareRaw == 0 && d.sleepFlag == 0

/-- The reset registers but for the control state, the kind and the checksum accumulator. -/
def cleared (st : St) (kind : Kind) (csumAcc : Byte) : Decoder :=
  { Decoder.reset with st := st, kind := kind, csumAcc := csumAcc }

/-- R33, with R32 for S_IDLE: in each state only the registers of its row hold data of the frame being decoded; every other
register holds its cleared value. -/
def Decoder.meaningful (d : Decoder) : Bool :=
  match d.st with
  | .sIdle => d == cleared .sIdle .none 0
  | .sTag => d == cleared .sTag .none 0
  | .mPm25Lo => d == cleared .mPm25Lo .meas 0
  | .mPm25Hi => d == { cleared .mPm25Hi .meas d.csumAcc with pm25Raw := d.pm25Raw } && decide (d.pm25Raw.toNat < 256)
  | .mPm10Lo => d == { cleared .mPm10Lo .meas d.csumAcc with pm25Raw := d.pm25Raw }
  | .mPm10Hi =>
    d == { cleared .mPm10Hi .meas d.csumAcc with pm25Raw := d.pm25Raw, pm10Raw := d.pm10Raw }
      && decide (d.pm10Raw.toNat < 256)
  | .aSub => d == cleared .aSub .none 0
  | .a05F0 => d == cleared .a05F0 .ack05 d.csumAcc
  | .a05F1 => d == cleared .a05F1 .ack05 d.csumAcc
  | .a06Mode => d == cleared .a06Mode .ack06 d.csumAcc
  | .a06Val => d == cleared .a06Val .ack06 d.csumAcc
  | .a07B0 => d == cleared .a07B0 .ack07 d.csumAcc
  | .a07B1 =>
    d == { cleared .a07B1 .ack07 d.csumAcc with firmwareRaw := d.firmwareRaw } && decide (d.firmwareRaw.toNat < 256)
  | .a07B2 =>
    d == { cleared .a07B2 .ack07 d.csumAcc with firmwareRaw := d.firmwareRaw } && decide (d.firmwareRaw.toNat < 65536)
  | .a08Mode => d == cleared .a08Mode .ack08 d.csumAcc
  | .a08Val => d == cleared .a08Val .ack08 d.csumAcc
  | .tIdLo => d.ownFieldsOnly && d.deviceId == 0 && !d.csumValid
  | .tIdHi => d.ownFieldsOnly && decide (d.deviceId.toNat < 256) && !d.csumValid
  | .tCsum => d.ownFieldsOnly && !d.csumValid
  | .tEnd => d.ownFieldsOnly

/-! ## The invariant of the machine -/

/-- What every step keeps: the bank is in its canonical form (log 2); in every instance only the registers of its state's
row hold data (R32, R33); the SLEEP and WAKE payloads differ (R163). -/
structure State.Inv (s : State) : Prop where
  bank : Bank.wf s.bank = true
  decoders : ∀ n, (s.decoderAt n).meaningful = true
  templates : s.templates.distinct

end Sys2Proof.Machine
end

