-- ==== Sys2Proof/Certificates/Slice0/Obligations.lean ====
section
/-! DEFINITION. The statements about the framing block. `s.fed d r` is `s` after one `feed` call that left the registers `d` in
the instance being stepped and put out `r`; `s.withEncOut r` is `s` with the result `r` of an `encode` call on the ports:
nothing else differs, so an equation with one of them is also the instruction's frame. -/

open Sys2Proof Sys2Proof.Machine

/-! ## Encoding -/

/-- Words written out from the formats R72 to R77 and the lines of R88 decode to the instructions they stand for. The payload
bytes of the four command words are the table's defaults (PRESUMED, log 6). -/
def Obligations.WordsDecodeToTheirInstructions : Prop :=
  decode (.word [0xAA, 0xC0, 0x7B, 0x00, 0xC8, 0x01, 0x60, 0xA1, 0x45, 0xAB]) = .ok (.meas 123 456 0xA160 0x45)
  ∧ decode (.word [0xAA, 0xC5, 0x05, 0x12, 0x34, 0xEF, 0xBE, 0xF8, 0xAB]) = .ok (.ack05 0x12 0x34 0xBEEF 0xF8)
  ∧ decode (.word [0xAA, 0xC5, 0x06, 0x01, 0x7F, 0x60, 0xA1, 0x87, 0xAB]) = .ok (.ack06 0x01 0x7F 0xA160 0x87)
  ∧ decode (.word [0xAA, 0xC5, 0x07, 0x12, 0x0B, 0x0F, 0x60, 0xA1, 0x34, 0xAB]) = .ok (.ack07 0x0F0B12 0xA160 0x34)
  ∧ decode (.word [0xAA, 0xC5, 0x08, 0x7E, 0xC8, 0x01, 0x00, 0x4F, 0xAB]) = .ok (.ack08 0x7E 0xC8 0x0001 0x4F)
  ∧ decode (.word [0xAA, 0xB4, 0x06, 0x01, 0x00, 0, 0, 0, 0, 0, 0, 0, 0, 0, 0, 0xFF, 0xFF, 0x05, 0xAB]) = .ok .sleep
  ∧ decode (.word [0xAA, 0xB4, 0x06, 0x01, 0x01, 0, 0, 0, 0, 0, 0, 0, 0, 0, 0, 0xFF, 0xFF, 0x06, 0xAB]) = .ok .wake
  ∧ decode (.word [0xAA, 0xB4, 0x07, 0x00, 0x00, 0, 0, 0, 0, 0, 0, 0, 0, 0, 0, 0xFF, 0xFF, 0x05, 0xAB]) = .ok .qfw
  ∧ decode (.word [0xAA, 0xB4, 0x08, 0x01, 0x05, 0, 0, 0, 0, 0, 0, 0, 0, 0, 0, 0xFF, 0xFF, 0x0C, 0xAB])
      = .ok (.setPeriod 5 0x0C)
  ∧ decode (.word [0x37]) = .ok (.feed 0x37)
  ∧ decode (.pair 3 (-1)) = .ok (.enc .setPeriod (-1))
  ∧ decode .reset = .ok .reset

/-- Decode and encode agree for every well-formed instruction of the table, with every operand at every value the encoding
admits. The command words hold the default payload (PRESUMED, logs 6 and 11). -/
def Obligations.DecodeOfEncodeIsTheInstruction : Prop :=
  ∀ i : Instr, WellFormed i = true → decode (encode i) = .ok i

/-- Each code has one meaning: a code that decodes is the encoding of what it decodes to, which is well formed. The
command words hold the default payload (PRESUMED, logs 6 and 11). -/
def Obligations.EncodeOfDecodeIsTheCode : Prop :=
  ∀ (c : Code) (i : Instr), decode c = .ok i → encode i = c ∧ WellFormed i = true

/-- The decoder accepts exactly the words that fit a frame row of the opcode table, as that row's instruction (R90: "f AND mask
== match"). A word of one byte is a FEED line (R88). The rows of the command frames hold the default payload
(PRESUMED, logs 6 and 11); that the constraints beside a mask are no part of decoding is the model's choice (log 10). -/
def Obligations.DecoderFollowsTheOpcodeTable : Prop :=
  (∀ r ∈ frameRows, ∀ bs, r.fits bs = true → ∃ i, decodeWord bs = .ok i ∧ i.mnemonic = r.mnemonic)
  ∧ ∀ bs i, bs.length ≠ 1 → decodeWord bs = .ok i → ∃ r ∈ frameRows, r.fits bs = true ∧ r.mnemonic = i.mnemonic

/-! ## The step -/

/-- When the oldest pending line decodes to an instruction, the step runs it, with the line taken and the instance of the line's
stream as the one stepped (the lines are the model's form of R88's programs, log 3; R195). -/
def Obligations.StepRunsTheDecodedInstruction : Prop :=
  ∀ (s : State) (l : Line) (rest : List Line) (i : Instr),
    s.pending = l :: rest → decode l.code = .ok i →
    step s = exec i { s with pending := rest, inst := l.stream }

/-- A word of the opcode table, once placed, is what the next step runs, in the state in which it was placed. -/
def Obligations.PlacedWordIsRunByTheNextStep : Prop :=
  ∀ (s : State) (nbits w : Nat) (i : Instr),
    decodeTableWord nbits w = some i → step (s.withFetchWord nbits w) = exec i s

/-- A pending word that is no row of the table is fed, byte by byte, to the instance of the line's stream: in the decoder's hands
every byte sequence has an effect (R122). That such a line is read as the FEEDS line of its bytes (R89) is the model's choice
(log 15). -/
def Obligations.StepFeedsAWordOfNoRow : Prop :=
  ∀ (s : State) (k : Nat) (bs : List Byte) (rest : List Line) (e : WordError),
    s.pending = ⟨k, .word bs⟩ :: rest → decode (.word bs) = .error e →
    ∃ d outs, feedAll (s.decoderAt k) bs = (d, outs)
      ∧ step s = .next (({ s with pending := rest, inst := k }.setDec d).withFeedOut outs)

/-- With nothing pending a step changes no register of any instance and asserts no output: "Between two feed calls nothing
changes, however long the pause" (R124; that there is such a step is the model's, log 4). -/
def Obligations.StepWithNothingPendingChangesNothing : Prop :=
  ∀ s : State, s.pending = [] →
    ∃ t, step s = .next t ∧ (∀ n, t.decoderAt n = s.decoderAt n) ∧ t.inst = s.inst ∧ t.templates = s.templates
      ∧ t.pending = [] ∧ t.feedOut = [] ∧ t.encOut = none

/-- Every instruction completes in every state, and its frame: no decoder instance but the one being stepped changes, nor does
any but by a FEED, a frame or a RESET; the parameter, the pending lines and the selected instance stay; there is one output
per byte fed. -/
def Obligations.EveryInstructionCompletes : Prop :=
  ∀ (i : Instr) (s : State), ∃ t, exec i s = .next t
    ∧ (∀ n, n ≠ s.inst → t.decoderAt n = s.decoderAt n)
    ∧ (feedCalls i = 0 → i ≠ .reset → t.bank = s.bank)
    ∧ t.inst = s.inst ∧ t.templates = s.templates ∧ t.pending = s.pending
    ∧ t.feedOut.length = feedCalls i
    ∧ (t.encOut = none ↔ (0 < feedCalls i ∨ i = .reset))

/-! ## Reset -/

/-- The reset values of the table of R41, in every instance. That a cleared number is zero is the spec's decision D4, that there
is a reset its decision D2 (log 1). -/
def Obligations.ResetStateHoldsTheResetValues : Prop :=
  (∀ n, (State.reset.decoderAt n).st = .sIdle ∧ (State.reset.decoderAt n).kind = .none
    ∧ (State.reset.decoderAt n).pm25Raw = 0 ∧ (State.reset.decoderAt n).pm10Raw = 0
    ∧ (State.reset.decoderAt n).firmwareRaw = 0 ∧ (State.reset.decoderAt n).periodValue = 0
    ∧ (State.reset.decoderAt n).sleepFlag = 0 ∧ (State.reset.decoderAt n).deviceId = 0
    ∧ (State.reset.decoderAt n).csumAcc = 0 ∧ (State.reset.decoderAt n).csumValid = false)
  ∧ State.reset.feedOut = [] ∧ State.reset.encOut = none

/-- RESET in any state clears the ten registers of the instance being stepped and nothing else, with no event and no drop cause
(the operation is the spec's decision D2, its use in any state D26; log 1). -/
def Obligations.ResetClearsTheInstance : Prop :=
  ∀ s : State, exec .reset s = .next { s.setDec ⟨.sIdle, .none, 0, 0, 0, 0, 0, 0, 0, false⟩ with feedOut := [], encOut := none }

/-! ## The Frame Decoder, state by state -/

/-- S_IDLE (R101): the start marker leads to S_TAG, any other byte is ignored; no register but `st` is written, no drop cause is
raised. -/
def Obligations.IdleSeeksTheStartMarker : Prop :=
  ∀ (s : State) (b : Byte), s.dec.st = .sIdle →
    exec (.feed b) s = .next (s.fed { s.dec with st := if b = 0xAA then .sTag else .sIdle } ⟨none, none⟩)

/-- S_TAG (R102). The drop cause stands on the diagnostic channel, the spec's decision D17 (log 18); that the offending byte is
consumed is its decision D5 (log 16). -/
def Obligations.SourceTagRoutesTheFrame : Prop :=
  ∀ (s : State) (b : Byte), s.dec.st = .sTag →
    (b = 0xC0 → exec (.feed b) s = .next (s.fed { s.dec with kind := .meas, st := .mPm25Lo } ⟨none, none⟩))
    ∧ (b = 0xC5 → exec (.feed b) s = .next (s.fed { s.dec with st := .aSub } ⟨none, none⟩))
    ∧ (b ≠ 0xC0 → b ≠ 0xC5 → exec (.feed b) s = .next (s.fed Decoder.reset ⟨none, some (.badTag b)⟩))

/-- M_PM25_LO, M_PM25_HI, M_PM10_LO, M_PM10_HI (R103 to R106). -/
def Obligations.MeasurementBytesAreAccumulated : Prop :=
  ∀ (s : State) (b : Byte),
    (s.dec.st = .mPm25Lo → exec (.feed b) s = .next (s.fed
      { s.dec with pm25Raw := b.setWidth 16, csumAcc := s.dec.csumAcc + b, st := .mPm25Hi } ⟨none, none⟩))
    ∧ (s.dec.st = .mPm25Hi → exec (.feed b) s = .next (s.fed
      { s.dec with
        pm25Raw := (s.dec.pm25Raw &&& 0x00FF) ||| (b.setWidth 16 <<< 8)
        csumAcc := s.dec.csumAcc + b, st := .mPm10Lo } ⟨none, none⟩))
    ∧ (s.dec.st = .mPm10Lo → exec (.feed b) s = .next (s.fed
      { s.dec with pm10Raw := b.setWidth 16, csumAcc := s.dec.csumAcc + b, st := .mPm10Hi } ⟨none, none⟩))
    ∧ (s.dec.st = .mPm10Hi → exec (.feed b) s = .next (s.fed
      { s.dec with
        pm10Raw := (s.dec.pm10Raw &&& 0x00FF) ||| (b.setWidth 16 <<< 8)
        csumAcc := s.dec.csumAcc + b, st := .tIdLo } ⟨none, none⟩))

/-- A_SUB (R107). The drop cause stands on the diagnostic channel, the spec's decision D17 (log 18). -/
def Obligations.SubDiscriminatorRoutesTheAcknowledgement : Prop :=
  ∀ (s : State) (b : Byte), s.dec.st = .aSub →
    (b = 0x05 → exec (.feed b) s = .next (s.fed
      { s.dec with kind := .ack05, csumAcc := s.dec.csumAcc + b, st := .a05F0 } ⟨none, none⟩))
    ∧ (b = 0x06 → exec (.feed b) s = .next (s.fed
      { s.dec with kind := .ack06, csumAcc := s.dec.csumAcc + b, st := .a06Mode } ⟨none, none⟩))
    ∧ (b = 0x07 → exec (.feed b) s = .next (s.fed
      { s.dec with kind := .ack07, csumAcc := s.dec.csumAcc + b, st := .a07B0 } ⟨none, none⟩))
    ∧ (b = 0x08 → exec (.feed b) s = .next (s.fed
      { s.dec with kind := .ack08, csumAcc := s.dec.csumAcc + b, st := .a08Mode } ⟨none, none⟩))
    ∧ (b ≠ 0x05 → b ≠ 0x06 → b ≠ 0x07 → b ≠ 0x08 →
      exec (.feed b) s = .next (s.fed Decoder.reset ⟨none, some (.badSubkind b)⟩))

/-- A05_F0 and A05_F1 (R108, R109): the filler bytes are summed and stored nowhere. That any byte is accepted is the spec's
decision D7 (log 17). -/
def Obligations.FillerBytesAreOnlySummed : Prop :=
  ∀ (s : State) (b : Byte),
    (s.dec.st = .a05F0 → exec (.feed b) s = .next (s.fed
      { s.dec with csumAcc := s.dec.csumAcc + b, st := .a05F1 } ⟨none, none⟩))
    ∧ (s.dec.st = .a05F1 → exec (.feed b) s = .next (s.fed
      { s.dec with csumAcc := s.dec.csumAcc + b, st := .tIdLo } ⟨none, none⟩))

/-- A06_MODE (R110) and A08_MODE (R115): the ACK06 mode-selector must be 0x00 or 0x01; that the one of ACK08 may be any byte is
the spec's decision D7 (log 17), the drop cause its decision D17 (log 18). -/
def Obligations.OnlyTheAck06ModeIsChecked : Prop :=
  ∀ (s : State) (b : Byte),
    (s.dec.st = .a06Mode → b = 0x00 ∨ b = 0x01 → exec (.feed b) s = .next (s.fed
      { s.dec with csumAcc := s.dec.csumAcc + b, st := .a06Val } ⟨none, none⟩))
    ∧ (s.dec.st = .a06Mode → b ≠ 0x00 → b ≠ 0x01 →
      exec (.feed b) s = .next (s.fed Decoder.reset ⟨none, some (.badMode b)⟩))
    ∧ (s.dec.st = .a08Mode → exec (.feed b) s = .next (s.fed
      { s.dec with csumAcc := s.dec.csumAcc + b, st := .a08Val } ⟨none, none⟩))

/-- A06_VAL (R111) and A08_VAL (R116): the byte is stored unchanged and summed. That any byte is accepted is the spec's decision
D7 (log 17). -/
def Obligations.SingleByteFieldsAreCaptured : Prop :=
  ∀ (s : State) (b : Byte),
    (s.dec.st = .a06Val → exec (.feed b) s = .next (s.fed
      { s.dec with sleepFlag := b, csumAcc := s.dec.csumAcc + b, st := .tIdLo } ⟨none, none⟩))
    ∧ (s.dec.st = .a08Val → exec (.feed b) s = .next (s.fed
      { s.dec with periodValue := b, csumAcc := s.dec.csumAcc + b, st := .tIdLo } ⟨none, none⟩))

/-- A07_B0, A07_B1, A07_B2 (R112 to R114). -/
def Obligations.FirmwareBytesAreAccumulated : Prop :=
  ∀ (s : State) (b : Byte),
    (s.dec.st = .a07B0 → exec (.feed b) s = .next (s.fed
      { s.dec with firmwareRaw := b.setWidth 24, csumAcc := s.dec.csumAcc + b, st := .a07B1 } ⟨none, none⟩))
    ∧ (s.dec.st = .a07B1 → exec (.feed b) s = .next (s.fed
      { s.dec with
        firmwareRaw := (s.dec.firmwareRaw &&& 0x0000FF) ||| (b.setWidth 24 <<< 8)
        csumAcc := s.dec.csumAcc + b, st := .a07B2 } ⟨none, none⟩))
    ∧ (s.dec.st = .a07B2 → exec (.feed b) s = .next (s.fed
      { s.dec with
        firmwareRaw := (s.dec.firmwareRaw &&& 0x00FFFF) ||| (b.setWidth 24 <<< 16)
        csumAcc := s.dec.csumAcc + b, st := .tIdLo } ⟨none, none⟩))

/-- T_ID_LO and T_ID_HI (R117, R118); the latter's byte is the last one summed: the two after it are not. That the checksum byte
is not is the spec's decision D11 (log 19), that T_END clears to zero its decision D4 (log 1). -/
def Obligations.DeviceIdBytesAreAccumulated : Prop :=
  ∀ (s : State) (b : Byte),
    (s.dec.st = .tIdLo → exec (.feed b) s = .next (s.fed
      { s.dec with deviceId := b.setWidth 16, csumAcc := s.dec.csumAcc + b, st := .tIdHi } ⟨none, none⟩))
    ∧ (s.dec.st = .tIdHi → exec (.feed b) s = .next (s.fed
      { s.dec with
        deviceId := (s.dec.deviceId &&& 0x00FF) ||| (b.setWidth 16 <<< 8)
        csumAcc := s.dec.csumAcc + b, st := .tCsum } ⟨none, none⟩))
    ∧ (s.dec.st = .tCsum → ∃ t, exec (.feed b) s = .next t ∧ t.dec.csumAcc = s.dec.csumAcc ∧ t.dec.st = .tEnd)
    ∧ (s.dec.st = .tEnd → ∃ t, exec (.feed b) s = .next t ∧ t.dec = Decoder.reset)

/-- T_CSUM (R119): the comparison is stored, true or false; the accumulator is neither changed (the spec's decision D11, log 19)
nor cleared; no drop at this byte. It is the only comparison of a frame: in every other state a `feed` call keeps the flag or clears all registers. -/
def Obligations.ChecksumByteIsComparedNotSummed : Prop :=
  ∀ (s : State) (b : Byte),
    (s.dec.st = .tCsum → exec (.feed b) s = .next
      (s.fed { s.dec with csumValid := decide (b = s.dec.csumAcc), st := .tEnd } ⟨none, none⟩))
    ∧ (s.dec.st ≠ .tCsum → ∃ t, exec (.feed b) s = .next t
      ∧ (t.dec.csumValid = s.dec.csumValid ∨ t.dec = Decoder.reset))

/-- T_END (R120): in every case all registers are cleared; a valid frame emits the event of its kind, built from the registers as
they stood, and none for ACK05 (the spec's decision D6, log 17); a bad end marker is reported before a checksum mismatch
(R187). The drop causes are the spec's decision D17 (log 18). The spec gives K_NONE no event (log 13): no clause speaks of
it. -/
def Obligations.EndMarkerClosesTheFrame : Prop :=
  ∀ (s : State) (b : Byte), s.dec.st = .tEnd →
    (b = 0xAB → s.dec.csumValid = true →
      (s.dec.kind = .meas → exec (.feed b) s = .next (s.fed Decoder.reset
        ⟨some (.measurementReport s.dec.pm25Raw s.dec.pm10Raw s.dec.deviceId), none⟩))
      ∧ (s.dec.kind = .ack05 → exec (.feed b) s = .next (s.fed Decoder.reset ⟨none, none⟩))
      ∧ (s.dec.kind = .ack06 → exec (.feed b) s = .next (s.fed Decoder.reset
        ⟨some (.sleepWakeAck s.dec.sleepFlag s.dec.deviceId), none⟩))
      ∧ (s.dec.kind = .ack07 → exec (.feed b) s = .next (s.fed Decoder.reset
        ⟨some (.firmwareAck (s.dec.firmwareRaw.setWidth 32) s.dec.deviceId), none⟩))
      ∧ (s.dec.kind = .ack08 → exec (.feed b) s = .next (s.fed Decoder.reset
        ⟨some (.periodAck s.dec.periodValue s.dec.deviceId), none⟩)))
    ∧ (b = 0xAB → s.dec.csumValid = false →
      exec (.feed b) s = .next (s.fed Decoder.reset ⟨none, some (.badChecksum s.dec.kind)⟩))
    ∧ (b ≠ 0xAB →
      exec (.feed b) s = .next (s.fed Decoder.reset ⟨none, some (.badEnd b s.dec.kind s.dec.csumValid)⟩))

/-! ## Rules of the whole decoder -/

/-- Which received bytes are summed, and how (R130, R131): a `feed` call that stays in the frame adds the byte modulo 256 in the
sixteen states of R131, and leaves the accumulator in the states of the start marker, the source tag and the checksum byte
(the last is the spec's decision D11, log 19). A byte ignored in S_IDLE is not summed, and neither is the end marker: a call
in T_END always returns to S_IDLE with the accumulator cleared (to zero: decision D4, log 1). -/
def Obligations.ExactlyThePayloadBytesAreSummed : Prop :=
  ∀ (s t : State) (b : Byte), exec (.feed b) s = .next t →
    (t.dec.st ≠ .sIdle →
      t.dec.csumAcc.toNat =
        if s.dec.st = .sIdle ∨ s.dec.st = .sTag ∨ s.dec.st = .tCsum ∨ s.dec.st = .tEnd then s.dec.csumAcc.toNat
        else (s.dec.csumAcc.toNat + b.toNat) % 256)
    ∧ (s.dec.st = .sIdle → t.dec.csumAcc = s.dec.csumAcc)
    ∧ (s.dec.st = .tEnd → t.dec.st = .sIdle ∧ t.dec.csumAcc = 0)

/-- `Le16` and `Le24` (R140, R141): the register is the low byte after the first step and `lo + 256 * hi`, or `b0 + 256 * b1 +
65536 * b2`, after the last; for the two readings, the device id and the firmware version. -/
def Obligations.FieldsAreAssembledLittleEndian : Prop :=
  ∀ (s : State) (b0 b1 b2 : Byte),
    (s.dec.st = .mPm25Lo → ∃ t u, exec (.feed b0) s = .next t ∧ exec (.feed b1) t = .next u
      ∧ t.dec.pm25Raw.toNat = b0.toNat ∧ u.dec.pm25Raw.toNat = b0.toNat + 256 * b1.toNat)
    ∧ (s.dec.st = .mPm10Lo → ∃ t u, exec (.feed b0) s = .next t ∧ exec (.feed b1) t = .next u
      ∧ t.dec.pm10Raw.toNat = b0.toNat ∧ u.dec.pm10Raw.toNat = b0.toNat + 256 * b1.toNat)
    ∧ (s.dec.st = .tIdLo → ∃ t u, exec (.feed b0) s = .next t ∧ exec (.feed b1) t = .next u
      ∧ t.dec.deviceId.toNat = b0.toNat ∧ u.dec.deviceId.toNat = b0.toNat + 256 * b1.toNat)
    ∧ (s.dec.st = .a07B0 → ∃ t u v, exec (.feed b0) s = .next t ∧ exec (.feed b1) t = .next u
      ∧ exec (.feed b2) u = .next v
      ∧ t.dec.firmwareRaw.toNat = b0.toNat ∧ u.dec.firmwareRaw.toNat = b0.toNat + 256 * b1.toNat
      ∧ v.dec.firmwareRaw.toNat = b0.toNat + 256 * b1.toNat + 65536 * b2.toNat)

/-- T_END is "the only state in which an event can be emitted" (R120), on the end marker of a frame whose checksum matched, of a
kind that has an event, and then nothing is dropped and the registers are cleared. That ACK05 has none is the spec's decision
D6 (log 17); that K_NONE, for which the spec gives no event rule, has none is the model's choice (log 13), in states that no
run reaches. -/
def Obligations.EventsComeOnlyFromTheEndMarker : Prop :=
  ∀ (s t : State) (b : Byte) (e : DecodedEvent), exec (.feed b) s = .next t → e ∈ t.events →
    s.dec.st = .tEnd ∧ b = 0xAB ∧ s.dec.csumValid = true ∧ s.dec.kind ≠ .none ∧ s.dec.kind ≠ .ack05
      ∧ t.events = [e] ∧ t.drops = [] ∧ t.dec = Decoder.reset

/-- Taking the block's exception (R180 to R187, R189): a `feed` call raises at most one drop cause, each only in its state and on
its condition, and then the registers are cleared and nothing is emitted. The causes stand on the diagnostic channel, the
spec's decision D17 (log 18). -/
def Obligations.ADropOnlyResynchronises : Prop :=
  ∀ (s t : State) (b : Byte) (c : DropCause), exec (.feed b) s = .next t → c ∈ t.drops →
    t.drops = [c] ∧ t.events = [] ∧ t.dec = Decoder.reset
      ∧ ((s.dec.st = .sTag ∧ b ≠ 0xC0 ∧ b ≠ 0xC5 ∧ c = .badTag b)
        ∨ (s.dec.st = .aSub ∧ b ≠ 0x05 ∧ b ≠ 0x06 ∧ b ≠ 0x07 ∧ b ≠ 0x08 ∧ c = .badSubkind b)
        ∨ (s.dec.st = .a06Mode ∧ b ≠ 0x00 ∧ b ≠ 0x01 ∧ c = .badMode b)
        ∨ (s.dec.st = .tEnd ∧ b = 0xAB ∧ s.dec.csumValid = false ∧ c = .badChecksum s.dec.kind)
        ∨ (s.dec.st = .tEnd ∧ b ≠ 0xAB ∧ c = .badEnd b s.dec.kind s.dec.csumValid))

/-- No attempt outlasts ten bytes (R126): from any meaningful registers, among the next ten bytes there is one after which the
decoder is in its reset state. -/
def Obligations.NoAttemptOutlastsTenBytes : Prop :=
  ∀ (d : Decoder) (bs : List Byte), d.meaningful = true → 10 ≤ bs.length →
    ∃ k, 1 ≤ k ∧ k ≤ 10 ∧ (feedAll d (bs.take k)).1 = Decoder.reset

/-! ## Frames -/

/-- A valid MEAS frame fed to a decoder in its reset state (R134, property 1 of 95_test_vectors.md S1): nothing on the first nine
bytes, the MeasurementReport on the tenth, the reset state after it. -/
def Obligations.ValidMeasurementFrameIsReported : Prop :=
  ∀ (s : State) (pm25 pm10 id : Word16) (cs : Byte), s.dec = Decoder.reset →
    cs.toNat = (pm25.toNat % 256 + pm25.toNat / 256 + pm10.toNat % 256 + pm10.toNat / 256
      + id.toNat % 256 + id.toNat / 256) % 256 →
    exec (.meas pm25 pm10 id cs) s = .next ((s.setDec Decoder.reset).withFeedOut
      (List.replicate 9 ⟨none, none⟩ ++ [⟨some (.measurementReport pm25 pm10 id), none⟩]))

/-- A valid ACK05 frame, whatever its fillers, gives no event and no drop cause (R150, the spec's decision D6; fillers are not
checked, its decision D7; log 17). -/
def Obligations.ValidSetIdAcknowledgementIsSilent : Prop :=
  ∀ (s : State) (f0 f1 : Byte) (id : Word16) (cs : Byte), s.dec = Decoder.reset →
    cs.toNat = (5 + f0.toNat + f1.toNat + id.toNat % 256 + id.toNat / 256) % 256 →
    exec (.ack05 f0 f1 id cs) s = .next ((s.setDec Decoder.reset).withFeedOut (List.replicate 9 ⟨none, none⟩))

/-- A valid ACK06 frame with mode-selector 0x00 or 0x01 gives the SleepWakeAck, which carries the value byte and not the mode
(R134, R144). -/
def Obligations.ValidSleepWakeAcknowledgementIsReported : Prop :=
  ∀ (s : State) (mode val : Byte) (id : Word16) (cs : Byte), s.dec = Decoder.reset → mode = 0x00 ∨ mode = 0x01 →
    cs.toNat = (6 + mode.toNat + val.toNat + id.toNat % 256 + id.toNat / 256) % 256 →
    exec (.ack06 mode val id cs) s = .next ((s.setDec Decoder.reset).withFeedOut
      (List.replicate 8 ⟨none, none⟩ ++ [⟨some (.sleepWakeAck val id), none⟩]))

/-- A valid ACK07 frame gives the FirmwareAck, whose version is the 24-bit field zero-extended (R134, R145; the extension is the
spec's decision D10, log 19). -/
def Obligations.ValidFirmwareAcknowledgementIsReported : Prop :=
  ∀ (s : State) (fw : Word24) (id : Word16) (cs : Byte), s.dec = Decoder.reset →
    cs.toNat = (7 + fw.toNat % 256 + fw.toNat / 256 % 256 + fw.toNat / 65536
      + id.toNat % 256 + id.toNat / 256) % 256 →
    exec (.ack07 fw id cs) s = .next ((s.setDec Decoder.reset).withFeedOut
      (List.replicate 9 ⟨none, none⟩ ++ [⟨some (.firmwareAck (fw.setWidth 32) id), none⟩]))

/-- A valid ACK08 frame, whatever its mode-selector and period, gives the PeriodAck (R134, R146; no condition on either byte is
the spec's decision D7, log 17). -/
def Obligations.ValidPeriodAcknowledgementIsReported : Prop :=
  ∀ (s : State) (mode period : Byte) (id : Word16) (cs : Byte), s.dec = Decoder.reset →
    cs.toNat = (8 + mode.toNat + period.toNat + id.toNat % 256 + id.toNat / 256) % 256 →
    exec (.ack08 mode period id cs) s = .next ((s.setDec Decoder.reset).withFeedOut
      (List.replicate 8 ⟨none, none⟩ ++ [⟨some (.periodAck period id), none⟩]))

/-- A frame of any kind whose checksum byte is wrong is dropped at its end marker and gives no event (R184; the drop cause is
the spec's decision D17, log 18). -/
def Obligations.FrameWithAWrongChecksumIsDropped : Prop :=
  ∀ (s : State) (a b id : Word16) (fw : Word24) (x y cs : Byte), s.dec = Decoder.reset →
    (cs ≠ csum (measRegion a b id) → exec (.meas a b id cs) s = .next ((s.setDec Decoder.reset).withFeedOut
      (List.replicate 9 ⟨none, none⟩ ++ [⟨none, some (.badChecksum .meas)⟩])))
    ∧ (cs ≠ csum [0x05, x, y, lo16 id, hi16 id] → exec (.ack05 x y id cs) s = .next
      ((s.setDec Decoder.reset).withFeedOut
        (List.replicate 8 ⟨none, none⟩ ++ [⟨none, some (.badChecksum .ack05)⟩])))
    ∧ (x = 0x00 ∨ x = 0x01 → cs ≠ csum [0x06, x, y, lo16 id, hi16 id] → exec (.ack06 x y id cs) s = .next
      ((s.setDec Decoder.reset).withFeedOut
        (List.replicate 8 ⟨none, none⟩ ++ [⟨none, some (.badChecksum .ack06)⟩])))
    ∧ (cs ≠ csum (ack07Region fw id) → exec (.ack07 fw id cs) s = .next ((s.setDec Decoder.reset).withFeedOut
      (List.replicate 9 ⟨none, none⟩ ++ [⟨none, some (.badChecksum .ack07)⟩])))
    ∧ (cs ≠ csum [0x08, x, y, lo16 id, hi16 id] → exec (.ack08 x y id cs) s = .next
      ((s.setDec Decoder.reset).withFeedOut
        (List.replicate 8 ⟨none, none⟩ ++ [⟨none, some (.badChecksum .ack08)⟩])))

/-- An ACK06 frame whose mode-selector is neither 0x00 nor 0x01 is dropped at that byte, whatever its checksum (R183, R187), and
its other five bytes are read from the reset state (that the offending byte is not looked at again is the spec's decision D5,
log 16; the drop cause its decision D17, log 18). -/
def Obligations.Ack06WithABadModeIsDropped : Prop :=
  ∀ (s : State) (mode val : Byte) (id : Word16) (cs : Byte), s.dec = Decoder.reset → mode ≠ 0x00 → mode ≠ 0x01 →
    ∃ d outs, feedAll Decoder.reset [val, lo16 id, hi16 id, cs, 0xAB] = (d, outs)
      ∧ exec (.ack06 mode val id cs) s = .next ((s.setDec d).withFeedOut
        ([⟨none, none⟩, ⟨none, none⟩, ⟨none, none⟩, ⟨none, some (.badMode mode)⟩] ++ outs))

/-- A frame line is its FEED lines (R89): in any state, running the expansion of a FRAME pseudo-operation, FEED by FEED, reaches
the registers and gives the outputs of the one frame instruction of the same bytes. -/
def Obligations.AFrameIsItsFeedLines : Prop :=
  ∀ (p : Pseudo) (i : Instr) (s : State), encode i = .word p.bytes →
    feedCalls i ≠ 0 →
    ∃ t u outs, exec i s = .next t ∧ execSeq p.expand s = some (u, outs)
      ∧ t.feedOut = outs ∧ (∀ n, t.decoderAt n = u.decoderAt n)
      ∧ t.templates = u.templates ∧ t.pending = u.pending ∧ t.inst = u.inst

/-- A run of steps over pending FEED lines of one stream: the registers of its instance are the left fold of `feed` over the bytes
(R59), every other instance keeps its own (R36), and the lines behind stay pending. -/
def Obligations.RunOverFeedLinesIsTheLeftFold : Prop :=
  ∀ (bs : List Byte) (s : State) (k : Nat) (rest : List Line), s.pending = feedLines k bs ++ rest →
    ∃ t : State, Sys2Proof.core.run bs.length s = .next t
      ∧ t.decoderAt k = bs.foldl (fun d b => (feed d b).1) (s.decoderAt k)
      ∧ (∀ n, n ≠ k → t.decoderAt n = s.decoderAt n)
      ∧ t.pending = rest ∧ t.templates = s.templates

/-- Every valid frame is decoded, and after any bytes at all that leave the decoder in S_IDLE (R134, property 3 of
95_test_vectors.md S3, R207): the outputs are those of the bytes before, then nothing until the frame's last byte, and there
the event of its kind. That ACK05 has none and no byte but the ACK06 mode is checked are the spec's decisions D6 and D7
(log 17), the zero-extended version its decision D10 (log 19). -/
def Obligations.AValidFrameIsDecodedAfterAnyBytes : Prop :=
  ∀ (before f : List Byte) (k : Kind),
    (feedAll Decoder.reset before).1.st = .sIdle → validFrame k f = true →
    feedAll Decoder.reset (before ++ f)
      = (Decoder.reset, (feedAll Decoder.reset before).2 ++ lastOnly f.length ⟨frameEvent k f, none⟩)

/-- Bytes without a start marker leave a decoder in its reset state there, with no event and no drop cause (R101, R204). -/
def Obligations.BytesWithoutAStartMarkerAreIgnored : Prop :=
  ∀ g : List Byte, (∀ b ∈ g, b ≠ 0xAA) →
    feedAll Decoder.reset g = (Decoder.reset, List.replicate g.length ⟨none, none⟩)

/-- Every event comes from a valid frame (R134, R151): whatever bytes were fed since reset, if the next byte makes the decoder
emit, then the bytes end in a valid frame, and the event is the one that its offsets spell. That ACK05 has no event is the spec's
decision D6 (log 17), the zero-extended version its decision D10 (log 19). -/
def Obligations.EveryEventComesFromAValidFrame : Prop :=
  ∀ (bs : List Byte) (b : Byte) (e : DecodedEvent),
    (feed (feedAll Decoder.reset bs).1 b).2.event = some e →
    ∃ before f k, bs ++ [b] = before ++ f ∧ (feedAll Decoder.reset before).1 = Decoder.reset
      ∧ validFrame k f = true ∧ frameEvent k f = some e

/-- After the bytes of a frame up to its second device-id byte the accumulator is `Csum` of the payload region (R132). -/
def Obligations.AccumulatorIsTheSumOfThePayload : Prop :=
  ∀ (f : List Byte) (k : Kind), validFrame k f = true →
    (feedAll Decoder.reset (f.take (f.length - 2))).1.csumAcc = csum (payloadRegion f)
    ∧ (feedAll Decoder.reset (f.take (f.length - 2))).1.st = .tCsum

/-- Checksum sensitivity (property 2, exact form, 95_test_vectors.md S2): a change of one field, filler or device-id byte of a valid
frame to any other value gives no event, the drop BAD_CHECKSUM on the last byte and the reset state (the drop cause is the
spec's decision D17, log 18). -/
def Obligations.AChangedFieldByteIsCaught : Prop :=
  ∀ (f : List Byte) (k : Kind) (offset : Nat) (v : Byte), validFrame k f = true →
    k.firstField ≤ offset → offset + 3 ≤ f.length → v ≠ byteAt f offset →
    feedAll Decoder.reset (f.set offset v)
      = (Decoder.reset, lastOnly f.length ⟨none, some (.badChecksum k)⟩)

/-- A change of the checksum byte alone is always detected (R135), and so is one of the end marker (R185), at the last byte (the
drop causes are the spec's decision D17, log 18). -/
def Obligations.AChangedTailByteIsCaught : Prop :=
  ∀ (f : List Byte) (k : Kind) (v : Byte), validFrame k f = true →
    (v ≠ byteAt f (f.length - 2) → feedAll Decoder.reset (f.set (f.length - 2) v)
      = (Decoder.reset, lastOnly f.length ⟨none, some (.badChecksum k)⟩))
    ∧ (v ≠ 0xAB → feedAll Decoder.reset (f.set (f.length - 1) v)
      = (Decoder.reset, lastOnly f.length ⟨none, some (.badEnd v k true)⟩))

/-- Laws of the checksum (R135): order does not matter; a change of one byte changes the sum by the difference; concatenation
adds; zeros sum to zero. -/
def Obligations.ChecksumLaws : Prop :=
  (∀ s t : List Byte, s.Perm t → csum s = csum t)
  ∧ (∀ (s : List Byte) (o : Nat) (v : Byte), o < s.length → csum (s.set o v) = csum s + (v - byteAt s o))
  ∧ (∀ s t : List Byte, (csum (s ++ t)).toNat = ((csum s).toNat + (csum t).toNat) % 256)
  ∧ (∀ s : List Byte, (csum s).toNat = (s.map BitVec.toNat).sum % 256)
  ∧ ∀ n, csum (List.replicate n 0) = 0

/-! ## The Command Encoder -/

/-- `encode(Sleep, _)`, `encode(Wake, _)` and `encode(QueryFirmwareVersion, _)` (R164 to R166): the frame of the command's selector
and template payload with the checksum of its offsets 2 to 16, whatever the parameter; and nothing else changes. That the checksum
of these three is the computed sum is the spec's decision D20 (R172; log 19). -/
def Obligations.FixedCommandsReturnTheirTemplate : Prop :=
  ∀ (s : State) (p : Int),
    (exec .sleep s = .next (s.withEncOut (.frame (commandFrame 0x06 s.templates.sleep)))
      ∧ exec (.enc .sleep p) s = .next (s.withEncOut (.frame (commandFrame 0x06 s.templates.sleep))))
    ∧ (exec .wake s = .next (s.withEncOut (.frame (commandFrame 0x06 s.templates.wake)))
      ∧ exec (.enc .wake p) s = .next (s.withEncOut (.frame (commandFrame 0x06 s.templates.wake))))
    ∧ (exec .qfw s = .next (s.withEncOut (.frame (commandFrame 0x07 s.templates.qfw)))
      ∧ exec (.enc .qfw p) s = .next (s.withEncOut (.frame (commandFrame 0x07 s.templates.qfw))))

/-- `encode(SetReportingPeriod, p)` (R167, R169). With p in 0 to 30, p stands at offset 4 and the checksum is that of the frame as
it then is, whatever checksum byte the instruction's word held. Outside, the parameter is invalid and there are no bytes:
nothing is clamped or truncated. The unbounded p is the spec's decision D13 (log 9). That SETPERIOD's word may hold any byte at
the checksum's place, without effect, and that a parameter above 30 in it runs and is rejected, is the model's (PRESUMED,
log 11). -/
def Obligations.SetPeriodWritesItsParameterOrRejectsIt : Prop :=
  ∀ (s : State) (p : Int) (cs : Byte),
    (0 ≤ p → p ≤ 30 →
      exec (.setPeriod p cs) s = .next (s.withEncOut
        (.frame (commandFrame 0x08 { s.templates.setPeriod with p4 := BitVec.ofInt 8 p })))
      ∧ exec (.enc .setPeriod p) s = .next (s.withEncOut
        (.frame (commandFrame 0x08 { s.templates.setPeriod with p4 := BitVec.ofInt 8 p }))))
    ∧ (p < 0 ∨ 30 < p →
      exec (.setPeriod p cs) s = .next (s.withEncOut (.rejected (.invalidParameter p)))
      ∧ exec (.enc .setPeriod p) s = .next (s.withEncOut (.rejected (.invalidParameter p))))

/-- A selector that names none of the four commands is unsupported and gives no bytes, whatever the parameter (R170, R171). That the
codes 0 to 3 are the four commands is the spec's decision D12, the priority over the parameter its decision D16 (log 9). -/
def Obligations.UnknownCommandIsUnsupported : Prop :=
  ∀ (s : State) (n : Nat) (p : Int), 3 < n →
    decode (.pair n p) = .ok (.enc (.unknown n) p)
    ∧ exec (.enc (.unknown n) p) s = .next (s.withEncOut (.rejected (.unsupportedCommand n)))

/-- What holds of every command frame, for every TEMPLATE_PAYLOAD (95_test_vectors.md V57, R77, R172, R174): its length, markers,
tag, family selector, broadcast device id, and the checksum as the sum of its offsets 2 to 16. -/
def Obligations.EveryCommandFrameIsWellBuilt : Prop :=
  ∀ (i : Instr) (s t : State) (f : List Byte), exec i s = .next t → t.encOut = some (.frame f) →
    f.length = 19 ∧ byteAt f 0 = 0xAA ∧ byteAt f 1 = 0xB4
      ∧ (byteAt f 2 = 0x06 ∨ byteAt f 2 = 0x07 ∨ byteAt f 2 = 0x08)
      ∧ byteAt f 15 = 0xFF ∧ byteAt f 16 = 0xFF
      ∧ (byteAt f 17).toNat = (((f.drop 2).take 15).map BitVec.toNat).sum % 256
      ∧ byteAt f 18 = 0xAB

/-- The frames of SLEEP and WAKE differ, since their payloads do (R163, R165, 95_test_vectors.md V57). -/
def Obligations.SleepAndWakeFramesDiffer : Prop :=
  ∀ s t u : State, s.templates.distinct → exec .sleep s = .next t → exec .wake s = .next u → t.encOut ≠ u.encOut

/-- Two SETPERIOD frames differ at offset 4 by the difference of their parameters, at offset 17 by the same modulo 256, and
nowhere else (95_test_vectors.md V57, R167). -/
def Obligations.PeriodFramesDifferByTheParameter : Prop :=
  ∀ (s : State) (p q : Int), 0 ≤ p → p ≤ 30 → 0 ≤ q → q ≤ 30 →
    ∃ t u f g, exec (.enc .setPeriod p) s = .next t ∧ exec (.enc .setPeriod q) s = .next u
      ∧ t.encOut = some (.frame f) ∧ u.encOut = some (.frame g)
      ∧ ((byteAt f 4).toNat : Int) = p ∧ ((byteAt g 4).toNat : Int) = q
      ∧ byteAt g 17 = byteAt f 17 + (byteAt g 4 - byteAt f 4)
      ∧ ∀ o, o ≠ 4 → o ≠ 17 → byteAt g o = byteAt f o

/-- `encode` is a function of its arguments (R161, for a given TEMPLATE_PAYLOAD): in two states that agree on nothing else, the
same call completes with the same result, and the result on the ports is all that differs after it. -/
def Obligations.EncodeDependsOnItsArgumentsOnly : Prop :=
  ∀ (i : Instr) (s s' : State), s.templates = s'.templates → feedCalls i = 0 → i ≠ .reset →
    ∃ r, exec i s = .next (s.withEncOut r) ∧ exec i s' = .next (s'.withEncOut r)

/-- The encoder's output is not input for the decoder (R175): fed to a decoder in its reset state, every command frame is dropped
at its second byte and the rest is read from the reset state; if none of the rest is 0xAA, all of it is ignored (that the
byte 0xB4 is consumed is the spec's decision D5, log 16; the drop cause its decision D17, log 18). -/
def Obligations.ACommandFrameIsNoInboundFrame : Prop :=
  ∀ (T : Templates) (c : Command) (p : Int) (f : List Byte), encodeCommand T c p = .frame f →
    (∃ d outs, feedAll Decoder.reset (f.drop 2) = (d, outs)
      ∧ feedAll Decoder.reset f = (d, ⟨none, none⟩ :: ⟨none, some (.badTag 0xB4)⟩ :: outs))
    ∧ ((∀ b ∈ f.drop 2, b ≠ 0xAA) → feedAll Decoder.reset f
      = (Decoder.reset, ⟨none, none⟩ :: ⟨none, some (.badTag 0xB4)⟩ :: List.replicate 17 ⟨none, none⟩))

/-! ## Outputs -/

/-- The derived ports of an event: the readings are the raw values divided by ten, exactly (R147; exact rationals are the spec's
decision D9, log 8); `is_sleep` is IS_SLEEP_OF of the raw byte, whatever that function is (R149, log 7); every event carries
its device id (R148); the codes of R39 (decision D28, log 9). -/
def Obligations.EventPortsAreFunctionsOfTheRawPorts : Prop :=
  ∀ (a b id : Word16) (flag period : Byte) (version : Word32),
    (DecodedEvent.measurementReport a b id).pm25 = some ((a.toNat : ℚ) / 10)
    ∧ (DecodedEvent.measurementReport a b id).pm10 = some ((b.toNat : ℚ) / 10)
    ∧ (DecodedEvent.sleepWakeAck flag id).isSleep = some (Config.isSleepOf flag)
    ∧ (∀ e ∈ [DecodedEvent.measurementReport a b id, .sleepWakeAck flag id, .firmwareAck version id, .periodAck period id],
        e.deviceId = id)
    ∧ [DecodedEvent.measurementReport a b id, .sleepWakeAck flag id, .firmwareAck version id, .periodAck period id].map
        DecodedEvent.code = [0, 1, 2, 3]

/-- The cause codes of the diagnostic channel and of the encoder's rejections, and the class of each cause (R180, R186: the codes
are the spec's decision D17, log 18). -/
def Obligations.CausesHaveTheirCodes : Prop :=
  ∀ (b : Byte) (k : Kind) (v : Bool) (p : Int) (n : Nat),
    [DropCause.badTag b, .badSubkind b, .badMode b, .badChecksum k, .badEnd b k v].map DropCause.code = [1, 2, 3, 4, 5]
    ∧ [DropCause.badTag b, .badSubkind b, .badMode b, .badChecksum k, .badEnd b k v].map DropCause.errorClass
      = [.framingError, .framingError, .framingError, .checksumMismatch, .framingError]
    ∧ [EncError.invalidParameter p, .unsupportedCommand n].map EncError.code = [1, 2]

/-! ## Rules of the whole machine -/

/-- Instances do not affect each other (R36, R59, R195): what an instruction does to its instance and puts out depends on that
instance's registers and the templates alone, not on any other instance, earlier output or pending line. -/
def Obligations.InstancesAreIsolated : Prop :=
  ∀ (i : Instr) (s s' t t' : State), s.dec = s'.dec → s.templates = s'.templates →
    exec i s = .next t → exec i s' = .next t' →
    t.dec = t'.dec ∧ t.feedOut = t'.feedOut ∧ t.encOut = t'.encOut

/-- No step changes a template: "the templates are never modified" (R63, R173). -/
def Obligations.NoStepChangesTheTemplates : Prop :=
  ∀ s t : State, step s = .next t → t.templates = s.templates

/-- The reset state meets the invariant. -/
def Obligations.ResetMeetsTheInvariant : Prop := State.reset.Inv

/-- Every step keeps the invariant: the bank in canonical form (log 2), in every instance the registers of R33 and no others hold
data, with the Idle invariant of R32, and the SLEEP and WAKE payloads differ (R163). -/
def Obligations.EveryStepKeepsTheInvariant : Prop :=
  ∀ s t : State, s.Inv → step s = .next t → t.Inv

/-- Every step completes: the machine never faults and never refuses ("The decoder has no error state, no halted state and no
stuck state", R122). It takes the oldest line, if there is one, and no instance but that of the line's stream changes; with
none, no instance does (the lines are the model's form of the calls, log 3; one that is no row is fed, log 15). -/
def Obligations.EveryStepCompletes : Prop :=
  ∀ s : State, ∃ t, step s = .next t ∧ t.pending = s.pending.tail ∧ t.templates = s.templates
    ∧ ∀ n, (∀ l ∈ s.pending.head?, n ≠ l.stream) → t.decoderAt n = s.decoderAt n
end

