-- ==== Sys2Proof/Laws/State.lean ====
section
/-! SUPPORT. The fields of State after each of its updates, one lemma each. -/

namespace Sys2Proof.Machine

@[simp] theorem setDec_bank (s : State) (d : Decoder) : (s.setDec d).bank = Bank.set s.bank s.inst d := rfl
@[simp] theorem setDec_inst (s : State) (d : Decoder) : (s.setDec d).inst = s.inst := rfl
@[simp] theorem setDec_feedOut (s : State) (d : Decoder) : (s.setDec d).feedOut = s.feedOut := rfl
@[simp] theorem setDec_encOut (s : State) (d : Decoder) : (s.setDec d).encOut = s.encOut := rfl
@[simp] theorem setDec_templates (s : State) (d : Decoder) : (s.setDec d).templates = s.templates := rfl
@[simp] theorem setDec_pending (s : State) (d : Decoder) : (s.setDec d).pending = s.pending := rfl

@[simp] theorem withFeedOut_bank (s : State) (rs : List FeedResult) : (s.withFeedOut rs).bank = s.bank := rfl
@[simp] theorem withFeedOut_inst (s : State) (rs : List FeedResult) : (s.withFeedOut rs).inst = s.inst := rfl
@[simp] theorem withFeedOut_feedOut (s : State) (rs : List FeedResult) : (s.withFeedOut rs).feedOut = rs := rfl
@[simp] theorem withFeedOut_encOut (s : State) (rs : List FeedResult) : (s.withFeedOut rs).encOut = none := rfl
@[simp] theorem withFeedOut_templates (s : State) (rs : List FeedResult) :
    (s.withFeedOut rs).templates = s.templates := rfl
@[simp] theorem withFeedOut_pending (s : State) (rs : List FeedResult) :
    (s.withFeedOut rs).pending = s.pending := rfl
@[simp] theorem withFeedOut_decoderAt (s : State) (rs : List FeedResult) (n : Nat) :
    (s.withFeedOut rs).decoderAt n = s.decoderAt n := rfl
@[simp] theorem withFeedOut_dec (s : State) (rs : List FeedResult) : (s.withFeedOut rs).dec = s.dec := rfl

@[simp] theorem withEncOut_bank (s : State) (r : EncResult) : (s.withEncOut r).bank = s.bank := rfl
@[simp] theorem withEncOut_inst (s : State) (r : EncResult) : (s.withEncOut r).inst = s.inst := rfl
@[simp] theorem withEncOut_feedOut (s : State) (r : EncResult) : (s.withEncOut r).feedOut = [] := rfl
@[simp] theorem withEncOut_encOut (s : State) (r : EncResult) : (s.withEncOut r).encOut = some r := rfl
@[simp] theorem withEncOut_templates (s : State) (r : EncResult) : (s.withEncOut r).templates = s.templates := rfl
@[simp] theorem withEncOut_pending (s : State) (r : EncResult) : (s.withEncOut r).pending = s.pending := rfl
@[simp] theorem withEncOut_decoderAt (s : State) (r : EncResult) (n : Nat) :
    (s.withEncOut r).decoderAt n = s.decoderAt n := rfl
@[simp] theorem withEncOut_dec (s : State) (r : EncResult) : (s.withEncOut r).dec = s.dec := rfl

@[simp] theorem quiet_bank (s : State) : s.quiet.bank = s.bank := rfl
@[simp] theorem quiet_inst (s : State) : s.quiet.inst = s.inst := rfl
@[simp] theorem quiet_feedOut (s : State) : s.quiet.feedOut = [] := rfl
@[simp] theorem quiet_encOut (s : State) : s.quiet.encOut = none := rfl
@[simp] theorem quiet_templates (s : State) : s.quiet.templates = s.templates := rfl
@[simp] theorem quiet_pending (s : State) : s.quiet.pending = s.pending := rfl
@[simp] theorem quiet_decoderAt (s : State) (n : Nat) : s.quiet.decoderAt n = s.decoderAt n := rfl
@[simp] theorem quiet_dec (s : State) : s.quiet.dec = s.dec := rfl

@[simp] theorem take_bank (s : State) (k : Nat) (ls : List Line) : (s.take k ls).bank = s.bank := rfl
@[simp] theorem take_inst (s : State) (k : Nat) (ls : List Line) : (s.take k ls).inst = k := rfl
@[simp] theorem take_feedOut (s : State) (k : Nat) (ls : List Line) : (s.take k ls).feedOut = s.feedOut := rfl
@[simp] theorem take_encOut (s : State) (k : Nat) (ls : List Line) : (s.take k ls).encOut = s.encOut := rfl
@[simp] theorem take_templates (s : State) (k : Nat) (ls : List Line) : (s.take k ls).templates = s.templates := rfl
@[simp] theorem take_pending (s : State) (k : Nat) (ls : List Line) : (s.take k ls).pending = ls := rfl
@[simp] theorem take_decoderAt (s : State) (k : Nat) (ls : List Line) (n : Nat) :
    (s.take k ls).decoderAt n = s.decoderAt n := rfl
@[simp] theorem take_dec (s : State) (k : Nat) (ls : List Line) : (s.take k ls).dec = s.decoderAt k := rfl

end Sys2Proof.Machine
end

