-- ==== Sys2Proof/Laws/Bank.lean ====
section
/-! SUPPORT. The bank of decoder instances: read after write, and the canonical form. -/

namespace Sys2Proof.Machine

@[simp] theorem Bank.get_erase_same (bank : List (Nat × Decoder)) (n : Nat) :
    Bank.get (Bank.erase bank n) n = Decoder.reset := by
  induction bank with
  | nil => rfl
  | cons e rest ih =>
    by_cases h : e.1 = n
    · simpa [Bank.erase, h] using ih
    · simpa [Bank.erase, Bank.get, h] using ih

theorem Bank.get_erase_other (bank : List (Nat × Decoder)) {n m : Nat} (h : m ≠ n) :
    Bank.get (Bank.erase bank n) m = Bank.get bank m := by
  induction bank with
  | nil => rfl
  | cons e rest ih =>
    by_cases hk : e.1 = n
    · simpa [Bank.erase, Bank.get, hk, Ne.symm h] using ih
    · by_cases hm : e.1 = m <;> simp [Bank.erase, Bank.get, hk, hm, h, ih]

theorem Bank.get_insert_other (bank : List (Nat × Decoder)) {n m : Nat} (d : Decoder) (h : m ≠ n) :
    Bank.get (Bank.insert bank n d) m = Bank.get bank m := by
  induction bank with
  | nil => simp [Bank.insert, Bank.get, Ne.symm h]
  | cons e rest ih =>
    by_cases hk : n < e.1
    · simp [Bank.insert, Bank.get, hk, Ne.symm h]
    · simp only [Bank.insert, if_neg hk, Bank.get, ih]

/-- An entry that no other entry of its number precedes is the one read. -/
theorem Bank.get_insert_erase_same (bank : List (Nat × Decoder)) (n : Nat) (d : Decoder) :
    Bank.get (Bank.insert (Bank.erase bank n) n d) n = d := by
  induction bank with
  | nil => simp [Bank.erase, Bank.insert, Bank.get]
  | cons e rest ih =>
    by_cases h : e.1 = n
    · simpa [Bank.erase, h] using ih
    · by_cases hk : n < e.1 <;> simp [Bank.erase, Bank.insert, Bank.get, h, hk, ih]

@[simp] theorem Bank.get_set_same (bank : List (Nat × Decoder)) (n : Nat) (d : Decoder) :
    Bank.get (Bank.set bank n d) n = d := by
  by_cases h : d = Decoder.reset
  · simp [Bank.set, h]
  · simp [Bank.set, h, Bank.get_insert_erase_same]

theorem Bank.get_set_other (bank : List (Nat × Decoder)) {n m : Nat} (d : Decoder) (h : m ≠ n) :
    Bank.get (Bank.set bank n d) m = Bank.get bank m := by
  by_cases hd : d = Decoder.reset
  · simp [Bank.set, hd, Bank.get_erase_other bank h]
  · simp [Bank.set, hd, Bank.get_insert_other _ d h, Bank.get_erase_other bank h]

theorem Bank.wfAbove_mono {m k : Nat} (h : m ≤ k) {bank : List (Nat × Decoder)}
    (hw : Bank.wfAbove k bank = true) : Bank.wfAbove m bank = true := by
  cases bank with
  | nil => rfl
  | cons e rest =>
    simp only [Bank.wfAbove, Bool.and_eq_true, decide_eq_true_eq] at hw ⊢
    exact ⟨⟨by omega, hw.1.2⟩, hw.2⟩

theorem Bank.wfAbove_erase {m : Nat} (n : Nat) {bank : List (Nat × Decoder)} (h : Bank.wfAbove m bank = true) :
    Bank.wfAbove m (Bank.erase bank n) = true := by
  induction bank generalizing m with
  | nil => rfl
  | cons e rest ih =>
    simp only [Bank.wfAbove, Bool.and_eq_true, decide_eq_true_eq] at h
    by_cases hk : e.1 = n
    · simpa [Bank.erase, hk] using ih (Bank.wfAbove_mono (by omega) h.2)
    · simpa [Bank.erase, Bank.wfAbove, hk] using ⟨h.1, ih h.2⟩

theorem Bank.wfAbove_insert_erase {m n : Nat} {d : Decoder} (hm : m < n) (hd : d ≠ Decoder.reset)
    {bank : List (Nat × Decoder)} (h : Bank.wfAbove m bank = true) :
    Bank.wfAbove m (Bank.insert (Bank.erase bank n) n d) = true := by
  induction bank generalizing m with
  | nil => simp [Bank.erase, Bank.insert, Bank.wfAbove, hm, hd]
  | cons e rest ih =>
    simp only [Bank.wfAbove, Bool.and_eq_true, decide_eq_true_eq] at h
    by_cases hk : e.1 = n
    · simpa [Bank.erase, hk] using ih hm (Bank.wfAbove_mono (by omega) h.2)
    · by_cases hlt : n < e.1
      · simpa [Bank.erase, Bank.insert, Bank.wfAbove, hk, hlt] using
          ⟨⟨hm, hd⟩, h.1.2, Bank.wfAbove_erase n h.2⟩
      · simpa [Bank.erase, Bank.insert, Bank.wfAbove, hk, hlt] using
          ⟨h.1, ih (by omega) h.2⟩

/-- The canonical form, with no bound on the first number. -/
theorem Bank.wf_iff_shift (bank : List (Nat × Decoder)) :
    Bank.wf bank = Bank.wfAbove 0 (bank.map fun e => (e.1 + 1, e.2)) := by
  cases bank with
  | nil => rfl
  | cons e rest =>
    have shift : ∀ (l : List (Nat × Decoder)) (k : Nat),
        Bank.wfAbove (k + 1) (l.map fun e => (e.1 + 1, e.2)) = Bank.wfAbove k l := by
      intro l
      induction l with
      | nil => intro k; rfl
      | cons e rest ih => intro k; simp [Bank.wfAbove, ih]
    simp [Bank.wf, Bank.wfAbove, shift]

theorem Bank.erase_shift (bank : List (Nat × Decoder)) (n : Nat) :
    (Bank.erase bank n).map (fun e => (e.1 + 1, e.2)) = Bank.erase (bank.map fun e => (e.1 + 1, e.2)) (n + 1) := by
  induction bank with
  | nil => rfl
  | cons e rest ih => by_cases h : e.1 = n <;> simp [Bank.erase, h, ih]

theorem Bank.insert_shift (bank : List (Nat × Decoder)) (n : Nat) (d : Decoder) :
    (Bank.insert bank n d).map (fun e => (e.1 + 1, e.2))
      = Bank.insert (bank.map fun e => (e.1 + 1, e.2)) (n + 1) d := by
  induction bank with
  | nil => rfl
  | cons e rest ih => by_cases h : n < e.1 <;> simp [Bank.insert, h, ih]

/-- Every bank operation keeps the canonical form: `set` is the one that writes. -/
theorem Bank.wf_set {bank : List (Nat × Decoder)} (n : Nat) (d : Decoder) (h : Bank.wf bank = true) :
    Bank.wf (Bank.set bank n d) = true := by
  rw [Bank.wf_iff_shift] at h ⊢
  by_cases hd : d = Decoder.reset
  · simpa [Bank.set, hd, Bank.erase_shift] using Bank.wfAbove_erase (n + 1) h
  · simpa [Bank.set, hd, Bank.erase_shift, Bank.insert_shift] using
      Bank.wfAbove_insert_erase (Nat.succ_pos n) hd h

@[simp] theorem reset_bank_wf : Bank.wf State.reset.bank = true := rfl

@[simp] theorem reset_decoderAt (n : Nat) : State.reset.decoderAt n = Decoder.reset := rfl

/-- The instance being stepped reads back what was written. -/
@[simp] theorem setDec_dec (s : State) (d : Decoder) : (s.setDec d).dec = d := by
  simp [State.dec, State.decoderAt]

@[simp] theorem setDec_decoderAt_inst (s : State) (d : Decoder) : (s.setDec d).decoderAt s.inst = d := by
  simp [State.decoderAt]

/-- No other instance is touched (R36). -/
theorem setDec_decoderAt_other (s : State) (d : Decoder) {n : Nat} (h : n ≠ s.inst) :
    (s.setDec d).decoderAt n = s.decoderAt n := by
  simp [State.decoderAt, Bank.get_set_other _ d h]

end Sys2Proof.Machine
end

