-- ==== Sys2Proof/Laws/Checksum.lean ====
section
/-! SUPPORT. The accumulate step and `Csum` (R130, R132, R172). -/

namespace Sys2Proof.Machine

theorem acc_toNat (sum b : Byte) : (acc sum b).toNat = (sum.toNat + b.toNat) % 256 := by
  simp [acc, BitVec.toNat_add]

@[simp] theorem csum_nil : csum [] = 0 := rfl

/-- A sum begun at `a` is `a` plus the sum begun at 0. -/
theorem foldl_acc (a : Byte) (bs : List Byte) : bs.foldl acc a = a + csum bs := by
  induction bs generalizing a with
  | nil => simp
  | cons b rest ih =>
    have h0 := ih (acc 0 b)
    simp only [csum, List.foldl_cons] at h0 ⊢
    rw [ih, h0]
    simp [acc, csum, BitVec.add_assoc]

@[simp] theorem csum_cons (b : Byte) (bs : List Byte) : csum (b :: bs) = b + csum bs := by
  have := foldl_acc (acc 0 b) bs
  simpa [csum, acc] using this

@[simp] theorem csumMatches_iff (b sum : Byte) : csumMatches b sum = true ↔ b = sum := by
  simp [csumMatches]

theorem length_frameWith (sel : Byte) (P : Payload) (cs : Byte) : (frameWith sel P cs).length = 19 := rfl

theorem length_summedRegion (sel : Byte) (P : Payload) : (summedRegion sel P).length = 15 := rfl

end Sys2Proof.Machine
end

