-- ==== Sys2Proof/Laws/Fields.lean ====
section
/-! SUPPORT. Field assembly: step by step and whole agree, assembly and splitting are inverse, the value as a number. -/

namespace Sys2Proof.Machine

/-! ## As numbers -/

theorem le16_toNat (lo hi : Byte) : (le16 lo hi).toNat = lo.toNat + 256 * hi.toNat := by
  have hlo := lo.isLt
  have hhi := hi.isLt
  have := Nat.two_pow_add_eq_or_of_lt (i := 8) hlo hi.toNat
  simp only [le16, BitVec.toNat_or, BitVec.toNat_shiftLeft, BitVec.toNat_setWidth, Nat.shiftLeft_eq]
  rw [Nat.mod_eq_of_lt (by omega), Nat.mod_eq_of_lt (a := hi.toNat) (by omega), Nat.mod_eq_of_lt (by omega),
    Nat.or_comm, Nat.mul_comm, ← this]
  omega

theorem le24_toNat (b0 b1 b2 : Byte) :
    (le24 b0 b1 b2).toNat = b0.toNat + 256 * b1.toNat + 65536 * b2.toNat := by
  have h0 := b0.isLt
  have h1 := b1.isLt
  have h2 := b2.isLt
  have e1 := Nat.two_pow_add_eq_or_of_lt (i := 8) h0 b1.toNat
  have e2 := Nat.two_pow_add_eq_or_of_lt (i := 16) (b := 2 ^ 8 * b1.toNat + b0.toNat) (by omega) b2.toNat
  simp only [le24, BitVec.toNat_or, BitVec.toNat_shiftLeft, BitVec.toNat_setWidth, Nat.shiftLeft_eq]
  rw [Nat.mod_eq_of_lt (a := b0.toNat) (by omega), Nat.mod_eq_of_lt (a := b1.toNat) (by omega),
    Nat.mod_eq_of_lt (a := b2.toNat) (by omega), Nat.mod_eq_of_lt (a := b1.toNat * 2 ^ 8) (by omega),
    Nat.mod_eq_of_lt (a := b2.toNat * 2 ^ 16) (by omega), Nat.or_comm b0.toNat, Nat.mul_comm b1.toNat, ← e1,
    Nat.or_comm, Nat.mul_comm b2.toNat, ← e2]
  omega

theorem lo16_toNat (v : Word16) : (lo16 v).toNat = v.toNat % 256 := by
  simp [lo16, BitVec.extractLsb'_toNat]

theorem hi16_toNat (v : Word16) : (hi16 v).toNat = v.toNat / 256 := by
  have := v.isLt
  simp only [hi16, BitVec.extractLsb'_toNat, Nat.shiftRight_eq_div_pow]
  omega

theorem byte0of24_toNat (v : Word24) : (byte0of24 v).toNat = v.toNat % 256 := by
  simp [byte0of24, BitVec.extractLsb'_toNat]

theorem byte1of24_toNat (v : Word24) : (byte1of24 v).toNat = v.toNat / 256 % 256 := by
  simp only [byte1of24, BitVec.extractLsb'_toNat, Nat.shiftRight_eq_div_pow]

theorem byte2of24_toNat (v : Word24) : (byte2of24 v).toNat = v.toNat / 65536 := by
  have := v.isLt
  simp only [byte2of24, BitVec.extractLsb'_toNat, Nat.shiftRight_eq_div_pow]
  omega

/-! ## Assembly and splitting are inverse -/

@[simp] theorem lo16_le16 (lo hi : Byte) : lo16 (le16 lo hi) = lo := by
  have := lo.isLt
  apply BitVec.eq_of_toNat_eq
  rw [lo16_toNat, le16_toNat]
  omega

@[simp] theorem hi16_le16 (lo hi : Byte) : hi16 (le16 lo hi) = hi := by
  have := lo.isLt
  apply BitVec.eq_of_toNat_eq
  rw [hi16_toNat, le16_toNat]
  omega

@[simp] theorem le16_lo16_hi16 (v : Word16) : le16 (lo16 v) (hi16 v) = v := by
  apply BitVec.eq_of_toNat_eq
  rw [le16_toNat, lo16_toNat, hi16_toNat]
  omega

@[simp] theorem byte0of24_le24 (b0 b1 b2 : Byte) : byte0of24 (le24 b0 b1 b2) = b0 := by
  have := b0.isLt
  apply BitVec.eq_of_toNat_eq
  rw [byte0of24_toNat, le24_toNat]
  omega

@[simp] theorem byte1of24_le24 (b0 b1 b2 : Byte) : byte1of24 (le24 b0 b1 b2) = b1 := by
  have := b0.isLt
  have := b1.isLt
  apply BitVec.eq_of_toNat_eq
  rw [byte1of24_toNat, le24_toNat]
  omega

@[simp] theorem byte2of24_le24 (b0 b1 b2 : Byte) : byte2of24 (le24 b0 b1 b2) = b2 := by
  have := b0.isLt
  have := b1.isLt
  apply BitVec.eq_of_toNat_eq
  rw [byte2of24_toNat, le24_toNat]
  omega

@[simp] theorem le24_bytes (v : Word24) : le24 (byte0of24 v) (byte1of24 v) (byte2of24 v) = v := by
  apply BitVec.eq_of_toNat_eq
  rw [le24_toNat, byte0of24_toNat, byte1of24_toNat, byte2of24_toNat]
  omega

/-! ## Step by step (R140, R141) -/

theorem le16Lo_toNat (lo : Byte) : (le16Lo lo).toNat = lo.toNat := by
  have := lo.isLt
  simp only [le16Lo, BitVec.toNat_setWidth]
  omega

@[simp] theorem le16Hi_le16Lo (lo hi : Byte) : le16Hi (le16Lo lo) hi = le16 lo hi := by
  have h : le16Lo lo &&& 0x00FF#16 = lo.setWidth 16 := by
    have := lo.isLt
    apply BitVec.eq_of_toNat_eq
    rw [BitVec.toNat_and, le16Lo_toNat, BitVec.toNat_setWidth, show (0x00FF#16).toNat = 2 ^ 8 - 1 from rfl,
      Nat.and_two_pow_sub_one_eq_mod]
    omega
  simp only [le16Hi, le16, h]

theorem le24B0_toNat (b0 : Byte) : (le24B0 b0).toNat = b0.toNat := by
  have := b0.isLt
  simp only [le24B0, BitVec.toNat_setWidth]
  omega

theorem le24B1_toNat (b0 b1 : Byte) : (le24B1 (le24B0 b0) b1).toNat = b0.toNat + 256 * b1.toNat := by
  have h : le24B0 b0 &&& 0x0000FF#24 = b0.setWidth 24 := by
    have := b0.isLt
    apply BitVec.eq_of_toNat_eq
    rw [BitVec.toNat_and, le24B0_toNat, BitVec.toNat_setWidth, show (0x0000FF#24).toNat = 2 ^ 8 - 1 from rfl,
      Nat.and_two_pow_sub_one_eq_mod]
    omega
  have : le24B1 (le24B0 b0) b1 = le24 b0 b1 0 := by simp [le24B1, le24, h]
  rw [this, le24_toNat]
  simp

@[simp] theorem le24B2_le24B1_le24B0 (b0 b1 b2 : Byte) :
    le24B2 (le24B1 (le24B0 b0) b1) b2 = le24 b0 b1 b2 := by
  have h : le24B1 (le24B0 b0) b1 &&& 0x00FFFF#24 = b0.setWidth 24 ||| (b1.setWidth 24 <<< 8) := by
    have e : b0.setWidth 24 ||| (b1.setWidth 24 <<< 8) = le24 b0 b1 0 := by simp [le24]
    have h0 := b0.isLt
    have h1 := b1.isLt
    apply BitVec.eq_of_toNat_eq
    rw [e, BitVec.toNat_and, le24B1_toNat, le24_toNat, show (0x00FFFF#24).toNat = 2 ^ 16 - 1 from rfl,
      Nat.and_two_pow_sub_one_eq_mod]
    simp only [BitVec.ofNat_eq_ofNat, BitVec.toNat_ofNat]
    omega
  simp only [le24B2, le24, h]

/-- A parameter in the range of a byte is what stands at offset 4 (R167). -/
theorem zext8_toNat {p : Int} (h0 : 0 ≤ p) (h1 : p ≤ 255) : ((zext8 p).toNat : Int) = p := by
  simp only [zext8, BitVec.toNat_ofInt]
  omega

@[simp] theorem zext8_toNat_cast (b : Byte) : zext8 (b.toNat : Int) = b := by
  apply BitVec.eq_of_toNat_eq
  have := zext8_toNat (p := b.toNat) (by omega) (by have := b.isLt; omega)
  omega

end Sys2Proof.Machine
end

