-- ==== Sys2Proof/Laws/Codec.lean ====
section
/-! SUPPORT. Small facts of the codec: selectors and their codes, the length of a frame, the words of one byte. -/

namespace Sys2Proof

open Sys2Proof.Machine

@[simp] theorem code_commandOfCode (n : Nat) : (commandOfCode n).code = n := by
  unfold commandOfCode
  split <;> rfl

@[simp] theorem wellFormed_commandOfCode (n : Nat) : (commandOfCode n).wellFormed = true := by
  match n with
  | 0 => rfl
  | 1 => rfl
  | 2 => rfl
  | 3 => rfl
  | n + 4 => simp [commandOfCode, Command.wellFormed]

theorem commandOfCode_code {c : Command} (h : c.wellFormed = true) : commandOfCode c.code = c := by
  cases c with
  | unknown n =>
    simp only [Command.wellFormed, decide_eq_true_eq] at h
    match n, h with
    | n + 4, _ => rfl
  | sleep => rfl
  | wake => rfl
  | qfw => rfl
  | setPeriod => rfl

@[simp] theorem length_inboundFrame (tag : Byte) (region : List Byte) (cs : Byte) :
    (inboundFrame tag region cs).length = region.length + 4 := by
  simp [inboundFrame]

@[simp] theorem decodeWord_one (b : Byte) : decodeWord [b] = .ok (.feed b) := rfl

end Sys2Proof
end

