-- ==== Sys2Proof/Laws/Decoder.lean ====
section
/-! SUPPORT. What one `feed` call can do, said once; `feed` in each state; `feedAll` over sequences. -/

namespace Sys2Proof.Machine

@[simp] theorem resync_eq (d : Decoder) : resync d = Decoder.reset := rfl

@[simp] theorem raiseDrop_eq (c : DropCause) (d : Decoder) : raiseDrop c d = (Decoder.reset, ⟨none, some c⟩) := rfl

@[simp] theorem silently_eq (d : Decoder) : silently d = (d, FeedResult.silent) := rfl

@[simp] theorem silent_event : FeedResult.silent.event = none := rfl
@[simp] theorem silent_drop : FeedResult.silent.drop = none := rfl

/-! ## `feed` in each state (R100: "exactly one of rules R101 to R120 applies") -/

section
variable {d : Decoder} (b : Byte)

theorem feed_at_sIdle (h : d.st = .sIdle) : feed d b = feedIdle d b := by simp only [feed, h]
theorem feed_at_sTag (h : d.st = .sTag) : feed d b = feedTag d b := by simp only [feed, h]
theorem feed_at_mPm25Lo (h : d.st = .mPm25Lo) : feed d b = feedPm25Lo d b := by simp only [feed, h]
theorem feed_at_mPm25Hi (h : d.st = .mPm25Hi) : feed d b = feedPm25Hi d b := by simp only [feed, h]
theorem feed_at_mPm10Lo (h : d.st = .mPm10Lo) : feed d b = feedPm10Lo d b := by simp only [feed, h]
theorem feed_at_mPm10Hi (h : d.st = .mPm10Hi) : feed d b = feedPm10Hi d b := by simp only [feed, h]
theorem feed_at_aSub (h : d.st = .aSub) : feed d b = feedSub d b := by simp only [feed, h]
theorem feed_at_a05F0 (h : d.st = .a05F0) : feed d b = feedFill0 d b := by simp only [feed, h]
theorem feed_at_a05F1 (h : d.st = .a05F1) : feed d b = feedFill1 d b := by simp only [feed, h]
theorem feed_at_a06Mode (h : d.st = .a06Mode) : feed d b = feedMode06 d b := by simp only [feed, h]
theorem feed_at_a06Val (h : d.st = .a06Val) : feed d b = feedSleepVal d b := by simp only [feed, h]
theorem feed_at_a07B0 (h : d.st = .a07B0) : feed d b = feedFw0 d b := by simp only [feed, h]
theorem feed_at_a07B1 (h : d.st = .a07B1) : feed d b = feedFw1 d b := by simp only [feed, h]
theorem feed_at_a07B2 (h : d.st = .a07B2) : feed d b = feedFw2 d b := by simp only [feed, h]
theorem feed_at_a08Mode (h : d.st = .a08Mode) : feed d b = feedMode08 d b := by simp only [feed, h]
theorem feed_at_a08Val (h : d.st = .a08Val) : feed d b = feedPeriod d b := by simp only [feed, h]
theorem feed_at_tIdLo (h : d.st = .tIdLo) : feed d b = feedIdLo d b := by simp only [feed, h]
theorem feed_at_tIdHi (h : d.st = .tIdHi) : feed d b = feedIdHi d b := by simp only [feed, h]
theorem feed_at_tCsum (h : d.st = .tCsum) : feed d b = feedCsum d b := by simp only [feed, h]
theorem feed_at_tEnd (h : d.st = .tEnd) : feed d b = feedEnd d b := by simp only [feed, h]

end

/-- Everything a `feed` call can put out: it is silent; or it drops, with all registers cleared; or it completes a valid
frame, at the end marker, with all registers cleared. -/
theorem feed_cases (d : Decoder) (b : Byte) :
    (feed d b).2 = FeedResult.silent
    ∨ (∃ c, feed d b = (Decoder.reset, ⟨none, some c⟩))
    ∨ (d.st = .tEnd ∧ b = endMarker ∧ d.csumValid = true ∧ feed d b = (Decoder.reset, ⟨eventOf d, none⟩)) := by
  cases hst : d.st
  case sIdle => left; rw [feed_at_sIdle b hst, feedIdle]; split <;> rfl
  case sTag =>
    rw [feed_at_sTag b hst, feedTag]
    split
    · exact .inl rfl
    · split
      · exact .inl rfl
      · exact .inr (.inl ⟨_, rfl⟩)
  case aSub =>
    rw [feed_at_aSub b hst, feedSub]
    repeat' split
    all_goals first | exact .inl rfl | exact .inr (.inl ⟨_, rfl⟩)
  case a06Mode =>
    rw [feed_at_a06Mode b hst, feedMode06]
    split
    · exact .inl rfl
    · exact .inr (.inl ⟨_, rfl⟩)
  case tEnd =>
    rw [feed_at_tEnd b hst, feedEnd]
    split
    · next h => exact .inr (.inr ⟨rfl, h.1, h.2, rfl⟩)
    · split <;> exact .inr (.inl ⟨_, rfl⟩)
  all_goals (left; simp only [feed, hst]; rfl)

/-! ## Sequences of bytes -/

@[simp] theorem feedAll_nil (d : Decoder) : feedAll d [] = (d, []) := rfl

@[simp] theorem feedAll_cons_fst (d : Decoder) (b : Byte) (bs : List Byte) :
    (feedAll d (b :: bs)).1 = (feedAll (feed d b).1 bs).1 := rfl

@[simp] theorem feedAll_cons_snd (d : Decoder) (b : Byte) (bs : List Byte) :
    (feedAll d (b :: bs)).2 = (feed d b).2 :: (feedAll (feed d b).1 bs).2 := rfl

/-- A sequence in two parts: the second starts where the first ends. -/
theorem feedAll_append (d : Decoder) (bs cs : List Byte) :
    feedAll d (bs ++ cs) =
      ((feedAll (feedAll d bs).1 cs).1, (feedAll d bs).2 ++ (feedAll (feedAll d bs).1 cs).2) := by
  induction bs generalizing d with
  | nil => rfl
  | cons b rest ih => simp [feedAll, ih]

/-- The registers after a sequence are the left fold of the `feed` step (R59). -/
theorem feedAll_fst (d : Decoder) (bs : List Byte) :
    (feedAll d bs).1 = bs.foldl (fun d b => (feed d b).1) d := by
  induction bs generalizing d with
  | nil => rfl
  | cons b rest ih => simp [ih]

/-- One output per byte. -/
@[simp] theorem length_feedAll (d : Decoder) (bs : List Byte) : (feedAll d bs).2.length = bs.length := by
  induction bs generalizing d with
  | nil => rfl
  | cons b rest ih => simp [ih]

/-! ## The bytes fed to the instance being stepped -/

@[simp] theorem feedBytes_dec (s : State) (bs : List Byte) : (s.feedBytes bs).dec = (feedAll s.dec bs).1 := by
  simp [State.feedBytes]

@[simp] theorem feedBytes_feedOut (s : State) (bs : List Byte) :
    (s.feedBytes bs).feedOut = (feedAll s.dec bs).2 := rfl
@[simp] theorem feedBytes_encOut (s : State) (bs : List Byte) : (s.feedBytes bs).encOut = none := rfl
@[simp] theorem feedBytes_inst (s : State) (bs : List Byte) : (s.feedBytes bs).inst = s.inst := rfl
@[simp] theorem feedBytes_templates (s : State) (bs : List Byte) : (s.feedBytes bs).templates = s.templates := rfl
@[simp] theorem feedBytes_pending (s : State) (bs : List Byte) : (s.feedBytes bs).pending = s.pending := rfl

theorem feedBytes_decoderAt_other (s : State) (bs : List Byte) {n : Nat} (h : n ≠ s.inst) :
    (s.feedBytes bs).decoderAt n = s.decoderAt n := by
  simp [State.feedBytes, setDec_decoderAt_other s _ h]

theorem feedBytes_wf (s : State) (bs : List Byte) (h : Bank.wf s.bank = true) :
    Bank.wf (s.feedBytes bs).bank = true := by
  simpa [State.feedBytes] using Bank.wf_set _ _ h

end Sys2Proof.Machine
end

