-- ==== Sys2Proof/Laws/Encoder.lean ====
section
/-! SUPPORT. What an `encode` call can answer, said once. -/

namespace Sys2Proof.Machine

theorem encodeSetPeriod_accepts {p : Int} (T : Templates) (h0 : 0 ≤ p) (h1 : p ≤ 30) :
    encodeSetPeriod T p = .frame (build selPeriod { T.setPeriod with p4 := zext8 p }) :=
  if_pos ⟨h0, h1⟩

theorem encodeSetPeriod_rejects {p : Int} (T : Templates) (h : p < 0 ∨ 30 < p) :
    encodeSetPeriod T p = .rejected (.invalidParameter p) :=
  if_neg fun hp => by have := hp.1; have := hp.2; simp only [maxPeriod] at this; omega

/-- Everything `encode` can answer: a built frame of the command's family, or one of the two rejections. -/
theorem encodeCommand_cases (T : Templates) (c : Command) (p : Int) :
    (∃ sel P, encodeCommand T c p = .frame (build sel P)
      ∧ (c = .sleep ∧ sel = selSleepWake ∧ P = T.sleep
        ∨ c = .wake ∧ sel = selSleepWake ∧ P = T.wake
        ∨ c = .qfw ∧ sel = selFirmware ∧ P = T.qfw
        ∨ c = .setPeriod ∧ sel = selPeriod ∧ P = { T.setPeriod with p4 := zext8 p } ∧ 0 ≤ p ∧ p ≤ 30))
    ∨ (c = .setPeriod ∧ (p < 0 ∨ 30 < p) ∧ encodeCommand T c p = .rejected (.invalidParameter p))
    ∨ (∃ n, c = .unknown n ∧ encodeCommand T c p = .rejected (.unsupportedCommand n)) := by
  cases c with
  | sleep => exact .inl ⟨_, _, rfl, by simp⟩
  | wake => exact .inl ⟨_, _, rfl, by simp⟩
  | qfw => exact .inl ⟨_, _, rfl, by simp⟩
  | setPeriod =>
    by_cases h : 0 ≤ p ∧ p ≤ 30
    · exact .inl ⟨_, _, encodeSetPeriod_accepts T h.1 h.2, by simp [h.1, h.2]⟩
    · exact .inr (.inl ⟨rfl, by omega, encodeSetPeriod_rejects T (by omega)⟩)
  | unknown n => exact .inr (.inr ⟨n, rfl, rfl⟩)

end Sys2Proof.Machine
end

