-- ==== Sys2Proof/Laws/PerInstr.lean ====
section
/-! SUPPORT. One fact per instruction of the opcode table: the word it is encoded as has the fixed bytes of its row (R90). -/

namespace Sys2Proof.Laws.FixedBytes

open Sys2Proof.Machine

/-- The table has a row of the instruction's mnemonic, and when the row describes a frame, the well-formed instruction's word
fits it. -/
def Statement (i : Instr) : Prop :=
  WellFormed i = true →
    ∃ r ∈ opcodeTable, r.mnemonic = i.mnemonic ∧ ∀ bs, encode i = .word bs → r.mask ≠ [] → r.fits bs = true

theorem meas (pm25 pm10 id : Word16) (cs : Byte) : Statement (.meas pm25 pm10 id cs) := fun _ =>
  ⟨_, .head _, rfl, fun bs h _ => by cases h; simp [Row.fits, measWord, inboundFrame, measRegion]⟩

theorem ack05 (fill0 fill1 : Byte) (id : Word16) (cs : Byte) : Statement (.ack05 fill0 fill1 id cs) := fun _ =>
  ⟨_, .tail _ (.head _), rfl, fun bs h _ => by cases h; simp [Row.fits, ack05Word, inboundFrame, ackRegion]⟩

theorem ack06 (mode val : Byte) (id : Word16) (cs : Byte) : Statement (.ack06 mode val id cs) := fun _ =>
  ⟨_, .tail _ (.tail _ (.head _)), rfl, fun bs h _ => by
    cases h; simp [Row.fits, ack06Word, inboundFrame, ackRegion]⟩

theorem ack07 (fw : Word24) (id : Word16) (cs : Byte) : Statement (.ack07 fw id cs) := fun _ =>
  ⟨_, .tail _ (.tail _ (.tail _ (.head _))), rfl, fun bs h _ => by
    cases h; simp [Row.fits, ack07Word, inboundFrame, ack07Region]⟩

theorem ack08 (mode period : Byte) (id : Word16) (cs : Byte) : Statement (.ack08 mode period id cs) := fun _ =>
  ⟨_, .tail _ (.tail _ (.tail _ (.tail _ (.head _)))), rfl, fun bs h _ => by
    cases h; simp [Row.fits, ack08Word, inboundFrame, ackRegion]⟩

theorem sleep : Statement .sleep := fun _ =>
  ⟨⟨"SLEEP", List.replicate 19 0xFF,
      [0xAA, 0xB4, 0x06, 0x01, 0x00, 0, 0, 0, 0, 0, 0, 0, 0, 0, 0, 0xFF, 0xFF, 0x05, 0xAB]⟩,
    by decide, rfl, fun bs h _ => by cases h; decide⟩

theorem wake : Statement .wake := fun _ =>
  ⟨⟨"WAKE", List.replicate 19 0xFF,
      [0xAA, 0xB4, 0x06, 0x01, 0x01, 0, 0, 0, 0, 0, 0, 0, 0, 0, 0, 0xFF, 0xFF, 0x06, 0xAB]⟩,
    by decide, rfl, fun bs h _ => by cases h; decide⟩

theorem qfw : Statement .qfw := fun _ =>
  ⟨⟨"QFW", List.replicate 19 0xFF,
      [0xAA, 0xB4, 0x07, 0x00, 0x00, 0, 0, 0, 0, 0, 0, 0, 0, 0, 0, 0xFF, 0xFF, 0x05, 0xAB]⟩,
    by decide, rfl, fun bs h _ => by cases h; decide⟩

theorem setPeriod (p : Int) (cs : Byte) : Statement (.setPeriod p cs) := fun _ =>
  ⟨⟨"SETPERIOD",
      [0xFF, 0xFF, 0xFF, 0xFF, 0, 0xFF, 0xFF, 0xFF, 0xFF, 0xFF, 0xFF, 0xFF, 0xFF, 0xFF, 0xFF, 0xFF, 0xFF, 0, 0xFF],
      [0xAA, 0xB4, 0x08, 0x01, 0x00, 0, 0, 0, 0, 0, 0, 0, 0, 0, 0, 0xFF, 0xFF, 0x00, 0xAB]⟩,
    by decide, rfl, fun bs h _ => by
      cases h
      simp [Row.fits, frameWith, summedRegion, payloadBytes, defaultTemplates, payloadOf]⟩

theorem feed (b : Byte) : Statement (.feed b) := fun _ =>
  ⟨⟨"FEED", [], []⟩, by decide, rfl, fun _ _ h => absurd rfl h⟩

theorem enc (cmd : Command) (p : Int) : Statement (.enc cmd p) := fun _ =>
  ⟨⟨"ENC", [], []⟩, by decide, rfl, fun _ _ h => absurd rfl h⟩

theorem reset : Statement .reset := fun _ =>
  ⟨⟨"RESET", [], []⟩, by decide, rfl, fun _ _ h => absurd rfl h⟩

end Sys2Proof.Laws.FixedBytes
end

