-- ==== Sys2Proof/Laws/Step.lean ====
section
/-! SUPPORT. What an instruction and a step can do, said once. -/

namespace Sys2Proof.Machine

/-- Everything an instruction can do: it feeds bytes to the instance being stepped; or it makes an `encode` call; or it
resets that instance. -/
theorem exec_cases (i : Instr) (s : State) :
    (∃ bs, exec i s = .next (s.feedBytes bs))
    ∨ (∃ r, exec i s = .next (s.withEncOut r))
    ∨ exec i s = .next (s.setDec Decoder.reset).quiet := by
  cases i
  case sleep => exact .inr (.inl ⟨_, rfl⟩)
  case wake => exact .inr (.inl ⟨_, rfl⟩)
  case qfw => exact .inr (.inl ⟨_, rfl⟩)
  case setPeriod => exact .inr (.inl ⟨_, rfl⟩)
  case enc => exact .inr (.inl ⟨_, rfl⟩)
  case reset => exact .inr (.inr rfl)
  all_goals exact .inl ⟨_, rfl⟩

/-- What a line asks for, by what it decodes to. -/
theorem workOf_ok {c : Code} {i : Instr} (h : decode c = .ok i) : workOf c = .ok i := by
  cases c with
  | word bs => have hw : decodeWord bs = .ok i := h; simp [workOf, hw]
  | pair n p => cases h; rfl
  | reset => cases h; rfl

/-- A word that is no row asks for its bytes to be fed. -/
theorem workOf_error {bs : List Byte} {e : WordError} (h : decodeWord bs = .error e) :
    workOf (.word bs) = .error bs := by
  simp [workOf, h]

/-- Only a word of bytes can be no row. -/
theorem decode_error {c : Code} {e : WordError} (h : decode c = .error e) :
    ∃ bs, c = .word bs ∧ decodeWord bs = .error e := by
  cases c with
  | word bs => exact ⟨bs, rfl, h⟩
  | pair n p => cases h
  | reset => cases h

/-- Everything a step can do: nothing is pending and the state rests; the oldest line's instruction runs; or the line's word is
no row and its bytes are fed. -/
theorem step_cases (s : State) :
    (s.pending = [] ∧ step s = .next s.quiet)
    ∨ (∃ l rest i, s.pending = l :: rest ∧ decode l.code = .ok i ∧ step s = exec i (s.take l.stream rest))
    ∨ (∃ k bs e rest, s.pending = ⟨k, .word bs⟩ :: rest ∧ decodeWord bs = .error e
        ∧ step s = .next ((s.take k rest).feedBytes bs)) := by
  cases hp : s.pending with
  | nil => exact .inl ⟨rfl, by simp [step, fetch, hp]⟩
  | cons l rest =>
    obtain ⟨k, c⟩ := l
    cases hd : decode c with
    | ok i => exact .inr (.inl ⟨_, rest, i, rfl, hd, by simp [step, fetch, hp, workOf_ok hd]⟩)
    | error e =>
      obtain ⟨bs, rfl, hw⟩ := decode_error hd
      exact .inr (.inr ⟨k, bs, e, rest, rfl, hw, by simp [step, fetch, hp, workOf_error hw, execFeeds]⟩)

/-- A step always answers a next state. -/
theorem step_next (s : State) : ∃ t, step s = .next t := by
  obtain ⟨-, h⟩ | ⟨l, rest, i, -, -, h⟩ | ⟨k, bs, e, rest, -, -, h⟩ := step_cases s
  · exact ⟨_, h⟩
  · obtain ⟨bs, he⟩ | ⟨r, he⟩ | he := exec_cases i (s.take l.stream rest) <;> exact ⟨_, h.trans he⟩
  · exact ⟨_, h⟩

end Sys2Proof.Machine
end

