-- ==== Sys2Proof/Tests/Slice0.lean ====
section
/-! SUPPORT. Tests on the vectors of spec/95_test_vectors.md (the vector is named at each test) and the witnesses of the
statements: for each statement with hypotheses, values that meet them together. -/

namespace Sys2Proof.Tests

open Sys2Proof Sys2Proof.Machine

/-! ## Helpers -/

/-- The state of a next outcome. -/
def nextOf (o : Host.Outcome State Fault Refusal) : Option State :=
  match o with
  | .next t => some t
  | .fault _ => none
  | .refused _ => none

/-- Reset, with the registers `d` in the instance being stepped. -/
def holding (d : Decoder) : State := State.reset.setDec d

/-- Reset, with the control state `st` and the kind `k`. -/
def inSt (st : St) (k : Kind := .none) : State := holding { Decoder.reset with st := st, kind := k }

/-- Reset, with T_END, the kind `k` and the flag `v`. -/
def atEnd (k : Kind) (v : Bool) : State := holding { Decoder.reset with st := .tEnd, kind := k, csumValid := v }

/-- Reset, with the code `c` pending for stream `n` and a second line behind it. -/
def pendingOn (n : Nat) (c : Code) : State := { State.reset with pending := [⟨n, c⟩, ⟨0, .reset⟩] }

/-- The outputs of the `feed` calls, the `encode` result, and the registers of the instance stepped, after an instruction. -/
def after (i : Instr) (s : State) : Option (List FeedResult × Option EncResult × Decoder) :=
  (nextOf (exec i s)).map fun t => (t.feedOut, t.encOut, t.dec)

/-- The bytes of the vectors V1, V10, V12, V17, V19. -/
def v1 : List Byte := [0xAA, 0xC0, 0x7B, 0x00, 0xC8, 0x01, 0x60, 0xA1, 0x45, 0xAB]
def v10 : List Byte := [0xAA, 0xC5, 0x05, 0x00, 0x00, 0x60, 0xA1, 0x06, 0xAB]
def v12 : List Byte := [0xAA, 0xC5, 0x06, 0x01, 0x00, 0x60, 0xA1, 0x08, 0xAB]
def v17 : List Byte := [0xAA, 0xC5, 0x07, 0x12, 0x0B, 0x0F, 0x60, 0xA1, 0x34, 0xAB]
def v19 : List Byte := [0xAA, 0xC5, 0x08, 0x01, 0x05, 0x60, 0xA1, 0x0F, 0xAB]

/-- V59: the registers after the first five bytes of V1. -/
def v59 : Decoder := ⟨.mPm10Hi, .meas, 0x007B, 0x00C8, 0, 0, 0, 0, 0x43, false⟩

/-! ## Well-formedness -/

theorem test_period_below_its_byte_is_ill_formed : WellFormed (.setPeriod (-1) 0) = false := by decide
theorem test_period_above_its_byte_is_ill_formed : WellFormed (.setPeriod 256 0) = false := by decide
theorem test_known_code_as_unknown_is_ill_formed : WellFormed (.enc (.unknown 2) 0) = false := by decide
theorem test_boundaries_are_well_formed :
    WellFormed (.setPeriod 0 0) = true ∧ WellFormed (.setPeriod 255 0) = true
      ∧ WellFormed (.enc (.unknown 4) 99) = true := by decide

/-! ## Decoding, one word for each constructor -/

/-- V1. -/
theorem test_decode_meas : decodeWord v1 = .ok (.meas 123 456 0xA160 0x45) := rfl
/-- V10. -/
theorem test_decode_ack05 : decodeWord v10 = .ok (.ack05 0x00 0x00 0xA160 0x06) := rfl
/-- V12. -/
theorem test_decode_ack06 : decodeWord v12 = .ok (.ack06 0x01 0x00 0xA160 0x08) := rfl
/-- V17. -/
theorem test_decode_ack07 : decodeWord v17 = .ok (.ack07 0x0F0B12 0xA160 0x34) := rfl
/-- V19. -/
theorem test_decode_ack08 : decodeWord v19 = .ok (.ack08 0x01 0x05 0xA160 0x0F) := rfl
/-- V40. -/
theorem test_decode_sleep :
    decodeWord [0xAA, 0xB4, 6, 1, 0, 0, 0, 0, 0, 0, 0, 0, 0, 0, 0, 0xFF, 0xFF, 0x05, 0xAB] = .ok .sleep := rfl
/-- V41. -/
theorem test_decode_wake :
    decodeWord [0xAA, 0xB4, 6, 1, 1, 0, 0, 0, 0, 0, 0, 0, 0, 0, 0, 0xFF, 0xFF, 0x06, 0xAB] = .ok .wake := rfl
/-- V42. -/
theorem test_decode_qfw :
    decodeWord [0xAA, 0xB4, 7, 0, 0, 0, 0, 0, 0, 0, 0, 0, 0, 0, 0, 0xFF, 0xFF, 0x05, 0xAB] = .ok .qfw := rfl
/-- V45. -/
theorem test_decode_setPeriod :
    decodeWord [0xAA, 0xB4, 8, 1, 0x1E, 0, 0, 0, 0, 0, 0, 0, 0, 0, 0, 0xFF, 0xFF, 0x25, 0xAB]
      = .ok (.setPeriod 30 0x25) := rfl
/-- R88. -/
theorem test_decode_operations :
    decode (.word [0xAA]) = .ok (.feed 0xAA) ∧ decode (.pair 0 (-1)) = .ok (.enc .sleep (-1))
      ∧ decode (.pair 7 31) = .ok (.enc (.unknown 7) 31) ∧ decode .reset = .ok .reset := ⟨rfl, rfl, rfl, rfl⟩
/-- The ACK06 row's match of spec/opcode_table.json, AAC5060000000000AB, first byte least significant. -/
theorem test_table_word_ack06 : decodeTableWord 72 0xAB000000000006C5AA = some (.ack06 0 0 0 0) := by rfl
/-- V30: 0x09 is no sub-discriminator. -/
theorem test_decode_rejects_by_name :
    decodeWord [0xAA, 0xC5, 0x09, 0, 0, 0, 0, 0, 0xAB] = .error (.badSub 0x09)
      ∧ decodeWord [0xAA, 0xC0] = .error (.noSuchLength 2) := ⟨rfl, rfl⟩

/-! ## One instruction at a time -/

/-- V1. -/
theorem test_meas_event :
    after (.meas 123 456 0xA160 0x45) State.reset
      = some (List.replicate 9 ⟨none, none⟩ ++ [⟨some (.measurementReport 123 456 0xA160), none⟩], none,
          Decoder.reset) := by decide +kernel
/-- V33. -/
theorem test_meas_wrong_checksum :
    after (.meas 123 456 0xA160 0x46) State.reset
      = some (List.replicate 9 ⟨none, none⟩ ++ [⟨none, some (.badChecksum .meas)⟩], none, Decoder.reset) := by
  decide +kernel
/-- V11. -/
theorem test_ack05_silent :
    after (.ack05 0xAA 0xAB 0xABAA 0xAF) State.reset
      = some (List.replicate 9 ⟨none, none⟩, none, Decoder.reset) := by decide +kernel
/-- V16. -/
theorem test_ack06_event :
    after (.ack06 0x01 0x7F 0xA160 0x87) State.reset
      = some (List.replicate 8 ⟨none, none⟩ ++ [⟨some (.sleepWakeAck 0x7F 0xA160), none⟩], none, Decoder.reset) := by
  decide +kernel
/-- V32. -/
theorem test_ack06_bad_mode :
    after (.ack06 0x02 0x00 0xA160 0x09) State.reset
      = some (List.replicate 3 ⟨none, none⟩ ++ [⟨none, some (.badMode 0x02)⟩] ++ List.replicate 5 ⟨none, none⟩, none,
          Decoder.reset) := by decide +kernel
/-- V18. -/
theorem test_ack07_event :
    after (.ack07 0xFFFFFF 0xFFFF 0x02) State.reset
      = some (List.replicate 9 ⟨none, none⟩ ++ [⟨some (.firmwareAck 16777215 0xFFFF), none⟩], none,
          Decoder.reset) := by decide +kernel
/-- V24. -/
theorem test_ack08_event :
    after (.ack08 0x7E 200 0x0001 0x4F) State.reset
      = some (List.replicate 8 ⟨none, none⟩ ++ [⟨some (.periodAck 200 0x0001), none⟩], none, Decoder.reset) := by
  decide +kernel
/-- V40. -/
theorem test_sleep_frame :
    after .sleep State.reset = some ([], some (.frame
      [0xAA, 0xB4, 6, 1, 0, 0, 0, 0, 0, 0, 0, 0, 0, 0, 0, 0xFF, 0xFF, 0x05, 0xAB]), Decoder.reset) := by decide +kernel
/-- V41. -/
theorem test_wake_frame :
    after .wake State.reset = some ([], some (.frame
      [0xAA, 0xB4, 6, 1, 1, 0, 0, 0, 0, 0, 0, 0, 0, 0, 0, 0xFF, 0xFF, 0x06, 0xAB]), Decoder.reset) := by decide +kernel
/-- V42. -/
theorem test_qfw_frame :
    after .qfw State.reset = some ([], some (.frame
      [0xAA, 0xB4, 7, 0, 0, 0, 0, 0, 0, 0, 0, 0, 0, 0, 0, 0xFF, 0xFF, 0x05, 0xAB]), Decoder.reset) := by decide +kernel
/-- V44, with the checksum of another parameter in the instruction's word (R211). -/
theorem test_setPeriod_frame :
    after (.setPeriod 5 0x07) State.reset = some ([], some (.frame
      [0xAA, 0xB4, 8, 1, 5, 0, 0, 0, 0, 0, 0, 0, 0, 0, 0, 0xFF, 0xFF, 0x0C, 0xAB]), Decoder.reset) := by decide +kernel
/-- V46. -/
theorem test_setPeriod_rejected :
    after (.setPeriod 31 0x26) State.reset
      = some ([], some (.rejected (.invalidParameter 31)), Decoder.reset) := by decide +kernel
/-- V46: 256 is not reduced to 0. -/
theorem test_enc_rejects_parameter :
    after (.enc .setPeriod 256) State.reset
      = some ([], some (.rejected (.invalidParameter 256)), Decoder.reset) := by decide +kernel
/-- V47. -/
theorem test_enc_rejects_command :
    after (.enc (.unknown 4) 99) State.reset
      = some ([], some (.rejected (.unsupportedCommand 4)), Decoder.reset) := by decide +kernel
/-- V1, index 5: the high byte of PM10. -/
theorem test_feed_pm10_high :
    after (.feed 0x01) (holding v59)
      = some ([⟨none, none⟩], none, ⟨.tIdLo, .meas, 0x007B, 0x01C8, 0, 0, 0, 0, 0x44, false⟩) := by decide +kernel
/-- V35: a wrong end marker is reported before a wrong checksum. -/
theorem test_feed_bad_end :
    after (.feed 0x00) (atEnd .meas false)
      = some ([⟨none, some (.badEnd 0x00 .meas false)⟩], none, Decoder.reset) := by decide +kernel
/-- V59. -/
theorem test_reset_in_a_frame : after .reset (holding v59) = some ([], none, Decoder.reset) := by decide +kernel
/-- V6: the scaled readings. -/
theorem test_scaled : scaled 123 = 123 / 10 ∧ scaled 65535 = 65535 / 10 := ⟨rfl, rfl⟩
/-- V55 and V3. -/
theorem test_csum :
    csum [0x7B, 0x00, 0xC8, 0x01, 0x60, 0xA1] = 0x45 ∧ csum [0xFF, 0xFF, 0xFF, 0xFF, 0xFF, 0xFF] = 0xFA := by decide

/-! ## One step -/

/-- A FEED line of stream 3 changes instance 3 (R101, R195). -/
theorem test_step_feeds_the_instance_of_the_stream :
    (nextOf (step (pendingOn 3 (.word [0xAA])))).map (fun t => (t.inst, t.bank, t.pending))
      = some (3, [(3, { Decoder.reset with st := .sTag })], [⟨0, .reset⟩]) := by decide +kernel
/-- V30's first three bytes as one word: no row, so they are fed, and the third drops the attempt. -/
theorem test_step_feeds_a_word_of_no_row :
    (nextOf (step (pendingOn 3 (.word [0xAA, 0xC5, 0x09])))).map (fun t => (t.feedOut, t.bank, t.pending))
      = some ([⟨none, none⟩, ⟨none, none⟩, ⟨none, some (.badSubkind 0x09)⟩], [], [⟨0, .reset⟩]) := by decide +kernel
/-- The word of the SLEEP row, placed on the state after reset, is run by the next step (V40). -/
theorem test_step_runs_the_placed_word :
    (nextOf (step (State.reset.withFetchWord 152 0xAB05FFFF00000000000000000000000106B4AA))).map (·.encOut)
      = some (some (.frame [0xAA, 0xB4, 6, 1, 0, 0, 0, 0, 0, 0, 0, 0, 0, 0, 0, 0xFF, 0xFF, 0x05, 0xAB])) := by
  decide +kernel

/-! ## Witnesses: values that meet the hypotheses of a statement together, one for each of its clauses -/

theorem witness_DecodeOfEncodeIsTheInstruction :
    WellFormed (.setPeriod 0 0x07) = true ∧ WellFormed (.setPeriod 255 0xFF) = true
      ∧ WellFormed (.enc (.unknown 4) (-1)) = true ∧ WellFormed (.meas 0xFFFF 0 0xFFFF 0) = true := by decide

theorem witness_EncodeOfDecodeIsTheCode :
    decode (.word v17) = .ok (.ack07 0x0F0B12 0xA160 0x34) ∧ decode (.pair 4 99) = .ok (.enc (.unknown 4) 99) :=
  ⟨rfl, rfl⟩

theorem witness_DecoderFollowsTheOpcodeTable :
    (∃ r ∈ frameRows, r.fits v1 = true) ∧ v1.length ≠ 1 ∧ decodeWord v1 = .ok (.meas 123 456 0xA160 0x45) :=
  ⟨⟨_, .head _, rfl⟩, by decide, rfl⟩

theorem witness_StepRunsTheDecodedInstruction :
    ∃ (s : State) (l : Line) (rest : List Line) (i : Instr),
      s.pending = l :: rest ∧ decode l.code = .ok i ∧ l.stream ≠ s.inst :=
  ⟨pendingOn 3 (.word v1), ⟨3, .word v1⟩, _, _, rfl, rfl, by decide⟩

theorem witness_PlacedWordIsRunByTheNextStep :
    ∃ i, decodeTableWord 72 0xAB000000000006C5AA = some i := ⟨_, rfl⟩

/-- V30's bytes with an end marker, and no bytes at all. -/
theorem witness_StepFeedsAWordOfNoRow :
    (pendingOn 3 (.word [0xAA, 0xC5, 0x09, 0xAB])).pending = ⟨3, .word [0xAA, 0xC5, 0x09, 0xAB]⟩ :: [⟨0, .reset⟩]
      ∧ decode (.word [0xAA, 0xC5, 0x09, 0xAB]) = .error (.noSuchLength 4)
      ∧ decode (.word []) = .error (.noSuchLength 0) := ⟨rfl, rfl, rfl⟩

theorem witness_StepWithNothingPendingChangesNothing : (holding v59).pending = [] := rfl

theorem witness_EveryInstructionCompletes : (1 : Nat) ≠ State.reset.inst ∧ feedCalls .sleep = 0 ∧ Instr.sleep ≠ .reset := by
  decide

theorem witness_IdleSeeksTheStartMarker : (inSt .sIdle).dec.st = .sIdle := rfl

theorem witness_SourceTagRoutesTheFrame :
    (inSt .sTag).dec.st = .sTag ∧ (0xAA : Byte) ≠ 0xC0 ∧ (0xAA : Byte) ≠ 0xC5 := by decide

theorem witness_MeasurementBytesAreAccumulated :
    (inSt .mPm25Lo .meas).dec.st = .mPm25Lo ∧ (inSt .mPm25Hi .meas).dec.st = .mPm25Hi
      ∧ (inSt .mPm10Lo .meas).dec.st = .mPm10Lo ∧ (holding v59).dec.st = .mPm10Hi := by decide

theorem witness_SubDiscriminatorRoutesTheAcknowledgement :
    (inSt .aSub).dec.st = .aSub
      ∧ ∀ b ∈ [(0x04 : Byte), 0x09], b ≠ 0x05 ∧ b ≠ 0x06 ∧ b ≠ 0x07 ∧ b ≠ 0x08 := by decide

theorem witness_FillerBytesAreOnlySummed :
    (inSt .a05F0 .ack05).dec.st = .a05F0 ∧ (inSt .a05F1 .ack05).dec.st = .a05F1 := by decide

theorem witness_OnlyTheAck06ModeIsChecked :
    (inSt .a06Mode .ack06).dec.st = .a06Mode ∧ ((0x01 : Byte) = 0x00 ∨ (0x01 : Byte) = 0x01)
      ∧ (0x02 : Byte) ≠ 0x00 ∧ (0x02 : Byte) ≠ 0x01 ∧ (inSt .a08Mode .ack08).dec.st = .a08Mode := by decide

theorem witness_SingleByteFieldsAreCaptured :
    (inSt .a06Val .ack06).dec.st = .a06Val ∧ (inSt .a08Val .ack08).dec.st = .a08Val := by decide

theorem witness_FirmwareBytesAreAccumulated :
    (inSt .a07B0 .ack07).dec.st = .a07B0 ∧ (inSt .a07B1 .ack07).dec.st = .a07B1
      ∧ (inSt .a07B2 .ack07).dec.st = .a07B2 := by decide

theorem witness_DeviceIdBytesAreAccumulated :
    (inSt .tIdLo .meas).dec.st = .tIdLo ∧ (inSt .tIdHi .ack05).dec.st = .tIdHi
      ∧ (inSt .tCsum .ack05).dec.st = .tCsum ∧ (inSt .tEnd .ack05).dec.st = .tEnd := by decide

theorem witness_ChecksumByteIsComparedNotSummed :
    (inSt .tCsum .ack07).dec.st = .tCsum ∧ (inSt .tIdHi .ack07).dec.st ≠ .tCsum := by decide

/-- The clauses of T_END: each kind with a matching checksum, a checksum that did not match, a wrong end marker. -/
theorem witness_EndMarkerClosesTheFrame :
    (∀ k ∈ [Kind.meas, .ack05, .ack06, .ack07, .ack08],
        (atEnd k true).dec.st = .tEnd ∧ (atEnd k true).dec.csumValid = true ∧ (atEnd k true).dec.kind = k)
      ∧ (atEnd .meas false).dec.st = .tEnd ∧ (atEnd .meas false).dec.csumValid = false
      ∧ (0xAA : Byte) ≠ 0xAB := by decide

/-- A byte summed in M_PM10_HI, the source tag, the checksum byte, which are not, an ignored byte and the end marker. -/
theorem witness_ExactlyThePayloadBytesAreSummed :
    (∃ t, exec (.feed 0xFF) (holding v59) = .next t ∧ t.dec.st ≠ .sIdle)
      ∧ (∃ t, exec (.feed 0xC5) (inSt .sTag) = .next t ∧ t.dec.st ≠ .sIdle)
      ∧ (∃ t, exec (.feed 0x45) (inSt .tCsum .meas) = .next t ∧ t.dec.st ≠ .sIdle)
      ∧ (∃ t, exec (.feed 0x37) (inSt .sIdle) = .next t ∧ (inSt .sIdle).dec.st = .sIdle)
      ∧ ∃ t, exec (.feed 0xAB) (atEnd .meas true) = .next t ∧ (atEnd .meas true).dec.st = .tEnd :=
  ⟨⟨_, rfl, by decide⟩, ⟨_, rfl, by decide⟩, ⟨_, rfl, by decide⟩, ⟨_, rfl, by decide⟩, _, rfl, by decide⟩

theorem witness_FieldsAreAssembledLittleEndian :
    (inSt .mPm25Lo .meas).dec.st = .mPm25Lo ∧ (inSt .mPm10Lo .meas).dec.st = .mPm10Lo
      ∧ (inSt .tIdLo .meas).dec.st = .tIdLo ∧ (inSt .a07B0 .ack07).dec.st = .a07B0 := by decide

theorem witness_EventsComeOnlyFromTheEndMarker :
    ∃ t e, exec (.feed 0xAB) (atEnd .ack08 true) = .next t ∧ e ∈ t.events :=
  ⟨_, .periodAck 0 0, rfl, by decide⟩

/-- One state for each of the five drop causes. -/
theorem witness_ADropOnlyResynchronises :
    (∃ t, exec (.feed 0xB4) (inSt .sTag) = .next t ∧ .badTag 0xB4 ∈ t.drops)
      ∧ (∃ t, exec (.feed 0x09) (inSt .aSub) = .next t ∧ .badSubkind 0x09 ∈ t.drops)
      ∧ (∃ t, exec (.feed 0x02) (inSt .a06Mode .ack06) = .next t ∧ .badMode 0x02 ∈ t.drops)
      ∧ (∃ t, exec (.feed 0xAB) (atEnd .meas false) = .next t ∧ .badChecksum .meas ∈ t.drops)
      ∧ ∃ t, exec (.feed 0xAC) (atEnd .meas true) = .next t ∧ .badEnd 0xAC .meas true ∈ t.drops :=
  ⟨⟨_, rfl, by decide⟩, ⟨_, rfl, by decide⟩, ⟨_, rfl, by decide⟩, ⟨_, rfl, by decide⟩, _, rfl, by decide⟩

theorem witness_NoAttemptOutlastsTenBytes :
    v59.meaningful = true ∧ Decoder.reset.meaningful = true ∧ 10 ≤ (List.replicate 10 (0xAA : Byte)).length := by
  decide

/-- V1. -/
theorem witness_ValidMeasurementFrameIsReported :
    State.reset.dec = Decoder.reset
      ∧ (0x45 : Byte).toNat = ((123 : Word16).toNat % 256 + (123 : Word16).toNat / 256
        + (456 : Word16).toNat % 256 + (456 : Word16).toNat / 256 + (0xA160 : Word16).toNat % 256 + (0xA160 : Word16).toNat / 256) % 256 := by decide

/-- V3, whose sum wraps. -/
theorem witness_ValidMeasurementFrameIsReported_wrap :
    State.reset.dec = Decoder.reset
      ∧ (0xFA : Byte).toNat = ((0xFFFF : Word16).toNat % 256 + (0xFFFF : Word16).toNat / 256
        + (0xFFFF : Word16).toNat % 256 + (0xFFFF : Word16).toNat / 256 + (0xFFFF : Word16).toNat % 256 + (0xFFFF : Word16).toNat / 256) % 256 := by decide

/-- V11. -/
theorem witness_ValidSetIdAcknowledgementIsSilent :
    State.reset.dec = Decoder.reset
      ∧ (0xAF : Byte).toNat = (5 + (0xAA : Byte).toNat + (0xAB : Byte).toNat + (0xABAA : Word16).toNat % 256
        + (0xABAA : Word16).toNat / 256) % 256 := by decide

/-- V15, mode-selector 0x00. -/
theorem witness_ValidSleepWakeAcknowledgementIsReported :
    State.reset.dec = Decoder.reset ∧ ((0x00 : Byte) = 0x00 ∨ (0x00 : Byte) = 0x01)
      ∧ (0x07 : Byte).toNat = (6 + (0x00 : Byte).toNat + (0x00 : Byte).toNat + (0xA160 : Word16).toNat % 256
        + (0xA160 : Word16).toNat / 256) % 256 := by decide

/-- V13, mode-selector 0x01. -/
theorem witness_ValidSleepWakeAcknowledgementIsReported_mode1 :
    State.reset.dec = Decoder.reset ∧ ((0x01 : Byte) = 0x00 ∨ (0x01 : Byte) = 0x01)
      ∧ (0x09 : Byte).toNat = (6 + (0x01 : Byte).toNat + (0x01 : Byte).toNat + (0xA160 : Word16).toNat % 256
        + (0xA160 : Word16).toNat / 256) % 256 := by decide

/-- V18. -/
theorem witness_ValidFirmwareAcknowledgementIsReported :
    State.reset.dec = Decoder.reset
      ∧ (0x02 : Byte).toNat = (7 + (0xFFFFFF : Word24).toNat % 256 + (0xFFFFFF : Word24).toNat / 256 % 256
        + (0xFFFFFF : Word24).toNat / 65536 + (0xFFFF : Word16).toNat % 256 + (0xFFFF : Word16).toNat / 256) % 256 := by
  decide

/-- V25. -/
theorem witness_ValidPeriodAcknowledgementIsReported :
    State.reset.dec = Decoder.reset
      ∧ (0x04 : Byte).toNat = (8 + (0xFF : Byte).toNat + (0xFF : Byte).toNat + (0xFFFF : Word16).toNat % 256
        + (0xFFFF : Word16).toNat / 256) % 256 := by decide

theorem witness_FrameWithAWrongChecksumIsDropped :
    State.reset.dec = Decoder.reset ∧ (0x46 : Byte) ≠ csum (measRegion 123 456 0xA160)
      ∧ (0x05 : Byte) ≠ csum [0x05, 0, 0, lo16 0xA160, hi16 0xA160]
      ∧ (0x09 : Byte) ≠ csum [0x06, 0x01, 0, lo16 0xA160, hi16 0xA160]
      ∧ (0x35 : Byte) ≠ csum (ack07Region 0x0F0B12 0xA160)
      ∧ (0x00 : Byte) ≠ csum [0x08, 1, 5, lo16 0xA160, hi16 0xA160] := by decide

theorem witness_Ack06WithABadModeIsDropped :
    State.reset.dec = Decoder.reset ∧ (0xAA : Byte) ≠ 0x00 ∧ (0xAA : Byte) ≠ 0x01 := by decide

theorem witness_AFrameIsItsFeedLines :
    encode (.meas 123 456 0xA160 0x45) = .word (Pseudo.frameMeas 123 456 0xA160).bytes
      ∧ feedCalls (.meas 123 456 0xA160 0x45) ≠ 0
      ∧ encode (.feed 0x37) = .word (Pseudo.feeds [0x37]).bytes ∧ feedCalls (.feed 0x37) ≠ 0 := by decide

theorem witness_RunOverFeedLinesIsTheLeftFold :
    ({ State.reset with pending := feedLines 3 v1 ++ [⟨0, .reset⟩] } : State).pending
      = feedLines 3 v1 ++ [⟨0, .reset⟩] := rfl

/-- V38's garbage and every kind of frame. -/
theorem witness_AValidFrameIsDecodedAfterAnyBytes :
    (feedAll Decoder.reset [0x00, 0x13, 0xC0, 0xAB, 0xC5, 0xFF, 0x37]).1.st = .sIdle
      ∧ validFrame .meas v1 = true ∧ validFrame .ack05 v10 = true ∧ validFrame .ack06 v12 = true
      ∧ validFrame .ack07 v17 = true ∧ validFrame .ack08 v19 = true := by decide +kernel

theorem witness_BytesWithoutAStartMarkerAreIgnored :
    ∀ b ∈ [(0x00 : Byte), 0x13, 0xC0, 0xAB, 0xC5, 0xFF, 0x37], b ≠ 0xAA := by decide

theorem witness_EveryEventComesFromAValidFrame :
    (feed (feedAll Decoder.reset (0x55 :: v1.take 9)).1 0xAB).2.event
      = some (.measurementReport 123 456 0xA160) := by decide +kernel

theorem witness_AccumulatorIsTheSumOfThePayload : validFrame .ack07 v17 = true := by decide +kernel

/-- The least and the greatest offset of a MEAS and of an ACK06 frame. -/
theorem witness_AChangedFieldByteIsCaught :
    (validFrame .meas v1 = true ∧ Kind.meas.firstField ≤ 2 ∧ 7 + 3 ≤ v1.length
        ∧ (0x7A : Byte) ≠ byteAt v1 2 ∧ (0x21 : Byte) ≠ byteAt v1 7)
      ∧ validFrame .ack06 v12 = true ∧ Kind.ack06.firstField ≤ 4 ∧ 6 + 3 ≤ v12.length
      ∧ (0x01 : Byte) ≠ byteAt v12 4 ∧ (0x00 : Byte) ≠ byteAt v12 6 := by decide +kernel

theorem witness_AChangedTailByteIsCaught :
    validFrame .meas v1 = true ∧ (0x46 : Byte) ≠ byteAt v1 (v1.length - 2) ∧ (0xAC : Byte) ≠ 0xAB := by decide +kernel

theorem witness_ChecksumLaws :
    [(0x06 : Byte), 0x01, 0x00].Perm [0x06, 0x00, 0x01] ∧ 2 < [(0x06 : Byte), 0x01, 0x00].length := by decide

/-- The ends of the accepted range and the parameters just outside it. -/
theorem witness_SetPeriodWritesItsParameterOrRejectsIt :
    ((0 : Int) ≤ 0 ∧ (0 : Int) ≤ 30) ∧ ((0 : Int) ≤ 30 ∧ (30 : Int) ≤ 30)
      ∧ ((-1 : Int) < 0 ∨ 30 < (-1 : Int)) ∧ ((31 : Int) < 0 ∨ 30 < (31 : Int)) := by decide

theorem witness_UnknownCommandIsUnsupported : (3 : Nat) < 4 := by decide

theorem witness_EveryCommandFrameIsWellBuilt :
    ∃ t f, exec (.enc .setPeriod 30) State.reset = .next t ∧ t.encOut = some (.frame f) := ⟨_, _, rfl, rfl⟩

theorem witness_SleepAndWakeFramesDiffer :
    State.reset.templates.distinct ∧ ∃ t u, exec .sleep State.reset = .next t ∧ exec .wake State.reset = .next u :=
  ⟨by decide, _, _, rfl, rfl⟩

theorem witness_PeriodFramesDifferByTheParameter :
    (0 : Int) ≤ 0 ∧ (0 : Int) ≤ 30 ∧ (0 : Int) ≤ 30 ∧ (30 : Int) ≤ 30 := by decide

theorem witness_EncodeDependsOnItsArgumentsOnly :
    State.reset.templates = (holding v59).templates ∧ feedCalls (.enc .setPeriod 5) = 0
      ∧ Instr.enc .setPeriod 5 ≠ .reset := ⟨rfl, rfl, by decide⟩

/-- The default template; and one whose payload holds 0xAA, which only the first clause speaks of. -/
theorem witness_ACommandFrameIsNoInboundFrame :
    (∃ f, encodeCommand defaultTemplates .setPeriod 5 = .frame f ∧ ∀ b ∈ f.drop 2, b ≠ 0xAA)
      ∧ ∃ f, encodeCommand { defaultTemplates with sleep := payloadOf 0xAA 0xC0 } .sleep 0 = .frame f :=
  ⟨⟨_, rfl, by decide⟩, _, rfl⟩

/-- Two states that agree on the instance stepped and the templates and on nothing else. -/
theorem witness_InstancesAreIsolated :
    State.reset.dec = ({ pendingOn 5 .reset with bank := [(7, v59)], inst := 2 } : State).dec
      ∧ State.reset.templates = ({ pendingOn 5 .reset with bank := [(7, v59)], inst := 2 } : State).templates
      ∧ ∃ t t', exec (.feed 0xAA) State.reset = .next t
        ∧ exec (.feed 0xAA) { pendingOn 5 .reset with bank := [(7, v59)], inst := 2 } = .next t' :=
  ⟨rfl, rfl, _, _, rfl, rfl⟩

theorem witness_NoStepChangesTheTemplates : ∃ t, step (pendingOn 0 (.word v1)) = .next t := ⟨_, rfl⟩

theorem witness_EveryStepCompletes : ∀ l ∈ (pendingOn 3 .reset).pending.head?, 0 ≠ l.stream := by decide

theorem witness_EveryStepKeepsTheInvariant :
    (pendingOn 3 (.word v1)).Inv ∧ ∃ t, step (pendingOn 3 (.word v1)) = .next t :=
  ⟨⟨rfl, fun _ => rfl, by decide⟩, _, rfl⟩

end Sys2Proof.Tests
end

section
/-! PROOF. The Frame Decoder, state by state: what FEED does to the whole state, given what the state's rule answers. -/

namespace Sys2Proof.Machine

/-! ## FEED -/

/-- FEED is one `feed` call on the decoder being stepped (R100). -/
theorem exec_feed (s : State) (b : Byte) :
    exec (.feed b) s = .next (s.fed (feed s.dec b).1 (feed s.dec b).2) := rfl

/-- Where the state's rule answers silently, FEED writes the rule's registers and puts out neither an event nor a drop cause. -/
theorem exec_feed_of_feed_eq_silently {s : State} {b : Byte} {d : Decoder} (h : feed s.dec b = silently d) :
    exec (.feed b) s = .next (s.fed d ⟨none, none⟩) := by
  rw [exec_feed, h, silently_eq, FeedResult.silent]

/-- In S_IDLE both branches are silent; the byte chooses only the next `st` (R101). -/
theorem feedIdle_eq_silently (d : Decoder) (b : Byte) :
    feedIdle d b = silently { d with st := if b = startMarker then .sTag else .sIdle } := by
  unfold feedIdle
  split <;> rfl

/-! ## The statements -/

/-- Settles O12: S_IDLE's rule is silent on every byte. -/
theorem idleSeeksTheStartMarker : Obligations.IdleSeeksTheStartMarker := by
  intro s b hst
  apply exec_feed_of_feed_eq_silently
  rw [feed_at_sIdle b hst, feedIdle_eq_silently]

/-- Settles O14: each of the four rules is silent, and its field step is `le16Lo` or `le16Hi` (R140), which the statement writes
out. -/
theorem measurementBytesAreAccumulated : Obligations.MeasurementBytesAreAccumulated := by
  intro s b
  refine ⟨fun hst => ?pm25Lo, fun hst => ?pm25Hi, fun hst => ?pm10Lo, fun hst => ?pm10Hi⟩
  case pm25Lo => exact exec_feed_of_feed_eq_silently (feed_at_mPm25Lo b hst)
  case pm25Hi => exact exec_feed_of_feed_eq_silently (feed_at_mPm25Hi b hst)
  case pm10Lo => exact exec_feed_of_feed_eq_silently (feed_at_mPm10Lo b hst)
  case pm10Hi => exact exec_feed_of_feed_eq_silently (feed_at_mPm10Hi b hst)

/-- Settles O19: each of the three rules is silent, and its field step is `le24B0`, `le24B1` or `le24B2` (R141), which the
statement writes out. -/
theorem firmwareBytesAreAccumulated : Obligations.FirmwareBytesAreAccumulated := by
  intro s b
  refine ⟨fun hst => ?fw0, fun hst => ?fw1, fun hst => ?fw2⟩
  case fw0 => exact exec_feed_of_feed_eq_silently (feed_at_a07B0 b hst)
  case fw1 => exact exec_feed_of_feed_eq_silently (feed_at_a07B1 b hst)
  case fw2 => exact exec_feed_of_feed_eq_silently (feed_at_a07B2 b hst)

end Sys2Proof.Machine
end

section
/-! PROOF. Fields over several FEED instructions: the register of a field, after each of its bytes, as a number. -/

namespace Sys2Proof.Machine

/-- The decoder being stepped holds, after a `feed` call, the registers the call left. -/
@[simp] theorem fed_dec (s : State) (d : Decoder) (r : FeedResult) : (s.fed d r).dec = d := by
  simp [State.fed]

/-- A register written by the two steps of `Le16` in two silent rules holds the first byte as a number, then both (R140). -/
theorem le16_register_assembled {register : Decoder → Word16} {s : State} {b0 b1 : Byte} {d e : Decoder}
    (feed0 : feed s.dec b0 = silently d) (feed1 : feed d b1 = silently e)
    (write0 : register d = le16Lo b0) (write1 : register e = le16Hi (register d) b1) :
    ∃ t u, exec (.feed b0) s = .next t ∧ exec (.feed b1) t = .next u
      ∧ (register t.dec).toNat = b0.toNat ∧ (register u.dec).toNat = b0.toNat + 256 * b1.toNat := by
  refine ⟨_, _, exec_feed_of_feed_eq_silently feed0,
    exec_feed_of_feed_eq_silently (by rwa [fed_dec]), ?first, ?both⟩
  case first => rw [fed_dec, write0, le16Lo_toNat]
  case both => rw [fed_dec, write1, write0, le16Hi_le16Lo, le16_toNat]

/-- The version register, written by the three steps of `Le24`, holds the first byte as a number, then the first two, then all
three (R141). -/
theorem firmwareRaw_assembled {s : State} (b0 b1 b2 : Byte) (hst : s.dec.st = .a07B0) :
    ∃ t u v, exec (.feed b0) s = .next t ∧ exec (.feed b1) t = .next u ∧ exec (.feed b2) u = .next v
      ∧ t.dec.firmwareRaw.toNat = b0.toNat ∧ u.dec.firmwareRaw.toNat = b0.toNat + 256 * b1.toNat
      ∧ v.dec.firmwareRaw.toNat = b0.toNat + 256 * b1.toNat + 65536 * b2.toNat := by
  refine ⟨_, _, _, exec_feed_of_feed_eq_silently (feed_at_a07B0 b0 hst),
    exec_feed_of_feed_eq_silently (feed_at_a07B1 b1 (by rw [fed_dec])),
    exec_feed_of_feed_eq_silently (feed_at_a07B2 b2 (by rw [fed_dec])), ?first, ?two, ?three⟩
  case first => rw [fed_dec, le24B0_toNat]
  case two => rw [fed_dec, fed_dec, le24B1_toNat]
  case three => rw [fed_dec, fed_dec, fed_dec, le24B2_le24B1_le24B0, le24_toNat]

/-- Settles O24: the two readings and the device id are assembled by `Le16`, the version by `Le24`, each from the low byte up. -/
theorem fieldsAreAssembledLittleEndian : Obligations.FieldsAreAssembledLittleEndian := by
  intro s b0 b1 b2
  refine ⟨fun hst => ?pm25, fun hst => ?pm10, fun hst => ?id, fun hst => ?firmware⟩
  case pm25 =>
    exact le16_register_assembled (register := Decoder.pm25Raw) (feed_at_mPm25Lo b0 hst) (feed_at_mPm25Hi b1 rfl) rfl rfl
  case pm10 =>
    exact le16_register_assembled (register := Decoder.pm10Raw) (feed_at_mPm10Lo b0 hst) (feed_at_mPm10Hi b1 rfl) rfl rfl
  case id =>
    exact le16_register_assembled (register := Decoder.deviceId) (feed_at_tIdLo b0 hst) (feed_at_tIdHi b1 rfl) rfl rfl
  case firmware => exact firmwareRaw_assembled b0 b1 b2 hst

end Sys2Proof.Machine
end

section
/-! PROOF. The Command Encoder: the rows that make an `encode` call, and what the result of the call depends on. -/

namespace Sys2Proof.Machine

/-- ENC puts the result of one `encode` call on the ports; of the state, the call reads TEMPLATE_PAYLOAD alone (R160, R161). -/
theorem exec_enc (c : Command) (p : Int) (s : State) :
    exec (.enc c p) s = .next (s.withEncOut (encodeCommand s.templates c p)) := rfl

/-- An instruction that neither feeds a byte nor resets is an ENC line, in every state the same one. Of the named commands only
SETPERIOD looks at the parameter (R170), so that of the others is 0 here. -/
theorem exec_eq_exec_enc {i : Instr} (noFeed : feedCalls i = 0) (noReset : i ≠ .reset) :
    ∃ c p, ∀ s, exec i s = exec (.enc c p) s := by
  cases i
  case sleep => exact ⟨.sleep, 0, fun _ => rfl⟩
  case wake => exact ⟨.wake, 0, fun _ => rfl⟩
  case qfw => exact ⟨.qfw, 0, fun _ => rfl⟩
  case setPeriod p cs => exact ⟨.setPeriod, p, fun _ => rfl⟩
  case enc c p => exact ⟨c, p, fun _ => rfl⟩
  case reset => exact absurd rfl noReset
  all_goals simp [feedCalls] at noFeed

/-- Settles O50: every encode instruction is one ENC line, and ENC's result is a function of the templates, the command and the
parameter. -/
theorem encodeDependsOnItsArgumentsOnly : Obligations.EncodeDependsOnItsArgumentsOnly := by
  intro i s s' sameTemplates noFeed noReset
  obtain ⟨c, p, isEnc⟩ := exec_eq_exec_enc noFeed noReset
  refine ⟨encodeCommand s.templates c p, ?inFirst, ?inSecond⟩
  case inFirst => rw [isEnc, exec_enc]
  case inSecond => rw [isEnc, exec_enc, sameTemplates]

end Sys2Proof.Machine
end

section
/-! PROOF. The invariant: a `feed` call, an instruction and a step each keep it (R32, R33, R163). -/

namespace Sys2Proof.Machine

/-! ## The registers of one decoder -/

@[simp] theorem reset_meaningful : Decoder.reset.meaningful = true := rfl

/-- The one value R32 allows in S_IDLE. -/
theorem eq_reset_of_meaningful_of_sIdle {d : Decoder} (h : d.meaningful = true) (hst : d.st = .sIdle) :
    d = Decoder.reset := by
  have : d = cleared .sIdle .none 0 := by simpa [Decoder.meaningful, hst] using h
  exact this

/-- After two bytes the version register lies below 65536, the bound of A07_B2 in R33. -/
theorem le24B1_toNat_lt (r : Word24) (b : Byte) : (le24B1 r b).toNat < 65536 := by
  have byteLt := b.isLt
  rw [le24B1, BitVec.toNat_or, BitVec.toNat_and, BitVec.toNat_shiftLeft, BitVec.toNat_setWidth, Nat.shiftLeft_eq]
  refine Nat.or_lt_two_pow (n := 16) (Nat.and_lt_two_pow _ (by decide)) ?_
  omega

/-- The tail's registers are no part of R33's rule about the fields of the other kinds. -/
@[simp] theorem ownFieldsOnly_tail (d : Decoder) (st : St) (id : Word16) (sum : Byte) (valid : Bool) :
    ({ d with st := st, deviceId := id, csumAcc := sum, csumValid := valid } : Decoder).ownFieldsOnly
      = d.ownFieldsOnly := rfl

/-- A `feed` call writes the registers of the next state's row of R33 and no others. -/
theorem feed_meaningful {d : Decoder} (b : Byte) (h : d.meaningful = true) : (feed d b).1.meaningful = true := by
  have byteLt : b.toNat < 256 := b.isLt
  cases hst : d.st
  case sIdle =>
    rw [eq_reset_of_meaningful_of_sIdle h hst, feed_at_sIdle b rfl, feedIdle]
    split <;> rfl
  case tIdLo | tIdHi | tCsum =>
    simp only [Decoder.meaningful, hst, Bool.and_eq_true] at h
    simp [feed, hst, feedIdLo, feedIdHi, feedCsum, Decoder.meaningful, h, le16Lo_toNat, byteLt]
  case tEnd =>
    rw [feed_at_tEnd b hst, feedEnd]
    split_ifs <;> rfl
  all_goals
    obtain ⟨st, kind, pm25, pm10, fw, period, flag, id, sum, valid⟩ := d
    subst hst
    simp only [Decoder.meaningful, cleared, Decoder.reset, beq_iff_eq, Decoder.mk.injEq, Bool.and_eq_true] at h
  case sTag =>
    rw [feed_at_sTag b rfl, feedTag]
    split_ifs <;> simp [Decoder.meaningful, cleared, Decoder.reset, h]
  case aSub =>
    rw [feed_at_aSub b rfl, feedSub]
    split_ifs <;> simp [Decoder.meaningful, cleared, Decoder.reset, h]
  case a06Mode =>
    rw [feed_at_a06Mode b rfl, feedMode06]
    split_ifs <;> simp [Decoder.meaningful, cleared, Decoder.reset, h]
  case mPm25Lo | mPm25Hi | mPm10Lo =>
    simp [feed, feedPm25Lo, feedPm25Hi, feedPm10Lo, Decoder.meaningful, cleared, Decoder.reset, h, le16Lo_toNat, byteLt]
  case a07B0 | a07B1 =>
    simp [feed, feedFw0, feedFw1, Decoder.meaningful, cleared, Decoder.reset, h, le24B0_toNat, byteLt, le24B1_toNat_lt]
  case a05F0 | a08Mode =>
    simp [feed, feedFill0, feedMode08, Decoder.meaningful, cleared, Decoder.reset, h]
  case mPm10Hi | a05F1 | a06Val | a07B2 | a08Val =>
    simp [feed, feedPm10Hi, feedFill1, feedSleepVal, feedFw2, feedPeriod, Decoder.meaningful, Decoder.ownFieldsOnly, h]

theorem feedAll_meaningful {d : Decoder} (bs : List Byte) (h : d.meaningful = true) :
    (feedAll d bs).1.meaningful = true := by
  induction bs generalizing d with
  | nil => exact h
  | cons b rest ih => exact ih (feed_meaningful b h)

/-! ## The state -/

/-- The invariant speaks of the bank and the templates alone. -/
theorem State.Inv.congr {s t : State} (h : s.Inv) (sameBank : t.bank = s.bank)
    (sameTemplates : t.templates = s.templates) : t.Inv where
  bank := sameBank ▸ h.bank
  decoders n := by simpa only [State.decoderAt, sameBank] using h.decoders n
  templates := sameTemplates ▸ h.templates

theorem State.Inv.setDec {s : State} {d : Decoder} (h : s.Inv) (hd : d.meaningful = true) : (s.setDec d).Inv where
  bank := Bank.wf_set s.inst d h.bank
  decoders n := by
    by_cases hn : n = s.inst
    · rwa [hn, setDec_decoderAt_inst]
    · rw [setDec_decoderAt_other s d hn]
      exact h.decoders n
  templates := h.templates

theorem State.Inv.feedBytes {s : State} (h : s.Inv) (bs : List Byte) : (s.feedBytes bs).Inv :=
  (h.setDec (feedAll_meaningful bs (h.decoders s.inst))).congr rfl rfl

theorem State.Inv.take {s : State} (h : s.Inv) (stream : Nat) (rest : List Line) : (s.take stream rest).Inv :=
  h.congr rfl rfl

/-- Every instruction keeps the invariant, whichever of its three kinds it is. -/
theorem State.Inv.exec {s t : State} {i : Instr} (h : s.Inv) (run : exec i s = .next t) : t.Inv := by
  obtain ⟨bs, hx⟩ | ⟨r, hx⟩ | hx := exec_cases i s <;> cases hx.symm.trans run
  case inl => exact h.feedBytes bs
  case inr.inl => exact h.congr rfl rfl
  case inr.inr => exact (h.setDec reset_meaningful).congr rfl rfl

/-- Settles O56. -/
theorem resetMeetsTheInvariant : Obligations.ResetMeetsTheInvariant where
  bank := reset_bank_wf
  decoders n := by rw [reset_decoderAt, reset_meaningful]
  templates := by decide

/-- Settles O57: what a step runs is an instruction, the bytes of a line or nothing, and each keeps the invariant. -/
theorem everyStepKeepsTheInvariant : Obligations.EveryStepKeepsTheInvariant := by
  intro s t h run
  obtain ⟨-, hx⟩ | ⟨l, rest, i, -, -, hx⟩ | ⟨k, bs, -, rest, -, -, hx⟩ := step_cases s <;> rw [hx] at run
  case inl => cases run; exact h.congr rfl rfl
  case inr.inl => exact (h.take l.stream rest).exec run
  case inr.inr => cases run; exact (h.take k rest).feedBytes bs

end Sys2Proof.Machine
end

section
/-! PROOF. Decoding and encoding are inverse, and the decoder follows the opcode table (R72 to R90). -/

namespace Sys2Proof

open Sys2Proof.Machine

/-! ## Decode after encode -/

/-- An encoded SETPERIOD holds its parameter as the byte at offset 4 (R77). -/
theorem decode_encode_setPeriod {p : Int} (cs : Byte) (h0 : 0 ≤ p) (h1 : p ≤ 255) :
    decode (encode (.setPeriod p cs)) = .ok (.setPeriod p cs) := by
  have atOffset4 : ((zext8 p).toNat : Int) = p := zext8_toNat h0 h1
  simp [encode, decode, frameWith, summedRegion, payloadBytes, defaultTemplates, payloadOf, decodeWord, decode19,
    decodeCommand, atOffset4]

/-- Settles O2: the fixed bytes of a word decide its row, and every field is put together again from its bytes. -/
theorem decodeOfEncodeIsTheInstruction : Obligations.DecodeOfEncodeIsTheInstruction := by
  intro i wf
  cases i
  case meas | ack05 | ack06 | ack07 | ack08 =>
    simp [encode, decode, measWord, measRegion, ack05Word, ack06Word, ack08Word, ackRegion, ack07Word, ack07Region,
      inboundFrame, decodeWord, decode9, decode10]
  case sleep | wake | qfw => rfl
  case setPeriod p cs =>
    simp only [WellFormed, Bool.and_eq_true, decide_eq_true_eq] at wf
    exact decode_encode_setPeriod cs wf.1 wf.2
  case feed | reset => rfl
  case enc c p => rw [encode, decode, commandOfCode_code wf]

/-! ## Encode after decode -/

/-- Each accepted branch has checked the bytes that the encoder writes out, and kept the others as operands. -/
theorem encode_of_decode9 {b0 b1 b2 b3 b4 b5 b6 b7 b8 : Byte} {i : Instr}
    (h : decode9 b0 b1 b2 b3 b4 b5 b6 b7 b8 = .ok i) :
    encode i = .word [b0, b1, b2, b3, b4, b5, b6, b7, b8] ∧ WellFormed i = true := by
  unfold decode9 at h
  split_ifs at h <;> cases h <;>
    simp_all [encode, WellFormed, ack05Word, ack06Word, ack08Word, ackRegion, inboundFrame]

theorem encode_of_decode10 {b0 b1 b2 b3 b4 b5 b6 b7 b8 b9 : Byte} {i : Instr}
    (h : decode10 b0 b1 b2 b3 b4 b5 b6 b7 b8 b9 = .ok i) :
    encode i = .word [b0, b1, b2, b3, b4, b5, b6, b7, b8, b9] ∧ WellFormed i = true := by
  unfold decode10 at h
  split_ifs at h <;> cases h <;>
    simp_all [encode, WellFormed, measWord, measRegion, ack07Word, ack07Region, inboundFrame]

theorem encode_of_decodeCommand {sel cs : Byte} {P : Payload} {i : Instr} (h : decodeCommand sel P cs = .ok i) :
    encode i = .word (frameWith sel P cs) ∧ WellFormed i = true := by
  unfold decodeCommand at h
  split_ifs at h with hsel hP hcs hP hcs hsel hP hcs hsel hP <;> cases h
  case pos | pos | pos =>
    subst hsel hP hcs
    exact ⟨rfl, rfl⟩
  case pos =>
    have byteLt := P.p4.isLt
    have wf : WellFormed (.setPeriod P.p4.toNat cs) = true := by simp [WellFormed]; omega
    rw [encode, zext8_toNat_cast, ← hP, hsel]
    exact ⟨rfl, wf⟩

theorem encode_of_decode19 {b0 b1 sel idLo idHi cs b18 : Byte} {P : Payload} {i : Instr}
    (h : decode19 b0 b1 sel P idLo idHi cs b18 = .ok i) :
    encode i = .word (b0 :: b1 :: sel :: payloadBytes P ++ [idLo, idHi, cs, b18]) ∧ WellFormed i = true := by
  unfold decode19 at h
  split_ifs at h with h0 h1 h18 hId
  simp only [not_or, Decidable.not_not] at h0 h1 h18 hId
  rw [h0, h1, h18, hId.1, hId.2]
  exact encode_of_decodeCommand h

theorem encode_of_decodeWord {bs : List Byte} {i : Instr} (h : decodeWord bs = .ok i) :
    encode i = .word bs ∧ WellFormed i = true := by
  unfold decodeWord at h
  split at h
  · cases h; exact ⟨rfl, rfl⟩
  · exact encode_of_decode9 h
  · exact encode_of_decode10 h
  · exact encode_of_decode19 h
  · cases h

/-- Settles O3: a word is taken apart at every offset, and a selector code is kept. -/
theorem encodeOfDecodeIsTheCode : Obligations.EncodeOfDecodeIsTheCode := by
  intro c i h
  cases c with
  | word bs => exact encode_of_decodeWord h
  | pair n p =>
    cases h
    exact ⟨by rw [encode, code_commandOfCode], wellFormed_commandOfCode n⟩
  | reset => cases h; exact ⟨rfl, rfl⟩

/-! ## The opcode table -/

theorem and_mask_all (b : Byte) : b &&& 255#8 = b := BitVec.and_allOnes

/-- Under a mask that covers every byte only the match itself fits. -/
theorem eq_pattern_of_fits_full {r : Row} {n : Nat} (full : r.mask = List.replicate n 0xFF) {bs : List Byte}
    (fits : r.fits bs = true) : bs = r.pattern := by
  have zip_full (cs : List Byte) : List.zipWith (· &&& ·) cs (List.replicate cs.length 0xFF) = cs := by
    induction cs with
    | nil => rfl
    | cons c rest ih =>
      simp only [List.length_cons, List.replicate_succ, List.zipWith_cons_cons, ih]
      exact congrArg (· :: rest) (and_mask_all c)
  simp only [Row.fits, full, List.length_replicate, Bool.and_eq_true, decide_eq_true_eq] at fits
  obtain ⟨hlen, hbytes⟩ := fits
  rw [← hbytes, ← hlen, zip_full]

/-- The inbound rows: the free bytes of the mask are the operands (R72 to R76). -/
theorem decodeWord_of_fits_inbound {r : Row} (hr : r ∈ inboundRows) {bs : List Byte} (fits : r.fits bs = true) :
    ∃ i, decodeWord bs = .ok i ∧ i.mnemonic = r.mnemonic := by
  simp only [inboundRows, List.mem_cons, List.not_mem_nil, or_false] at hr
  simp only [Row.fits, Bool.and_eq_true, decide_eq_true_eq] at fits
  obtain ⟨hlen, hbytes⟩ := fits
  obtain rfl | rfl | rfl | rfl | rfl := hr
  case inl =>
    match bs, hlen with
    | [b0, b1, b2, b3, b4, b5, b6, b7, b8, b9], _ =>
      obtain ⟨rfl, rfl, rfl⟩ : b0 = 0xAA ∧ b1 = 0xC0 ∧ b9 = 0xAB := by simpa [and_mask_all] using hbytes
      exact ⟨_, rfl, rfl⟩
  case inr.inr.inr.inl =>
    match bs, hlen with
    | [b0, b1, b2, b3, b4, b5, b6, b7, b8, b9], _ =>
      obtain ⟨rfl, rfl, rfl, rfl⟩ : b0 = 0xAA ∧ b1 = 0xC5 ∧ b2 = 0x07 ∧ b9 = 0xAB := by
        simpa [and_mask_all] using hbytes
      exact ⟨_, rfl, rfl⟩
  all_goals
    match bs, hlen with
    | [b0, b1, b2, b3, b4, b5, b6, b7, b8], _ =>
      simp only [List.zipWith_cons_cons, BitVec.ofNat_eq_ofNat, and_mask_all, List.cons.injEq] at hbytes
      obtain ⟨rfl, rfl, rfl, -, -, -, -, -, rfl, -⟩ := hbytes
      exact ⟨_, rfl, rfl⟩

/-- The outbound rows: SETPERIOD's mask leaves offsets 4 and 17 free, the others' no byte (R77, R90). -/
theorem decodeWord_of_fits_outbound {r : Row} (hr : r ∈ outboundRows) {bs : List Byte} (fits : r.fits bs = true) :
    ∃ i, decodeWord bs = .ok i ∧ i.mnemonic = r.mnemonic := by
  simp only [outboundRows, List.mem_cons, List.not_mem_nil, or_false] at hr
  obtain rfl | rfl | rfl | rfl := hr
  case inl | inr.inl | inr.inr.inl =>
    rw [eq_pattern_of_fits_full rfl fits]
    exact ⟨_, rfl, rfl⟩
  case inr.inr.inr =>
    simp only [Row.fits, Bool.and_eq_true, decide_eq_true_eq] at fits
    obtain ⟨hlen, hbytes⟩ := fits
    match bs, hlen with
    | [b0, b1, b2, b3, b4, b5, b6, b7, b8, b9, b10, b11, b12, b13, b14, b15, b16, b17, b18], _ =>
      simp only [List.zipWith_cons_cons, BitVec.ofNat_eq_ofNat, and_mask_all, List.cons.injEq] at hbytes
      obtain ⟨rfl, rfl, rfl, rfl, -, rfl, rfl, rfl, rfl, rfl, rfl, rfl, rfl, rfl, rfl, rfl, rfl, -, rfl, -⟩ := hbytes
      refine ⟨.setPeriod b4.toNat b17, ?_, rfl⟩
      simp [decodeWord, decode19, decodeCommand, defaultTemplates, payloadOf]

/-- A row without a mask is one of the three operations (R90). -/
theorem mem_frameRows {r : Row} (hr : r ∈ opcodeTable) (hm : r.mnemonic ∉ ["FEED", "ENC", "RESET"]) :
    r ∈ frameRows := by
  obtain h | h := List.mem_append.1 hr
  · exact h
  · simp only [operationRows, List.mem_cons, List.not_mem_nil, or_false] at h
    obtain rfl | rfl | rfl := h <;> simp at hm

/-- The fixed bytes of every instruction's word are those of its row, by the law of each instruction. -/
theorem fixedBytes (i : Instr) : Laws.FixedBytes.Statement i := by
  cases i
  case meas => exact Laws.FixedBytes.meas _ _ _ _
  case ack05 => exact Laws.FixedBytes.ack05 _ _ _ _
  case ack06 => exact Laws.FixedBytes.ack06 _ _ _ _
  case ack07 => exact Laws.FixedBytes.ack07 _ _ _
  case ack08 => exact Laws.FixedBytes.ack08 _ _ _ _
  case sleep => exact Laws.FixedBytes.sleep
  case wake => exact Laws.FixedBytes.wake
  case qfw => exact Laws.FixedBytes.qfw
  case setPeriod => exact Laws.FixedBytes.setPeriod _ _
  case feed => exact Laws.FixedBytes.feed _
  case enc => exact Laws.FixedBytes.enc _ _
  case reset => exact Laws.FixedBytes.reset

/-- An instruction whose encoding is a word of another length than one has a mnemonic of no operation row (R88). -/
theorem mnemonic_not_operation {i : Instr} {bs : List Byte} (henc : encode i = .word bs) (hlen : bs.length ≠ 1) :
    i.mnemonic ∉ ["FEED", "ENC", "RESET"] := by
  cases i
  case feed b => cases henc; exact absurd rfl hlen
  case enc => cases henc
  case reset => cases henc
  all_goals simp [Instr.mnemonic]

/-- Every row of a frame has a mask. -/
theorem mask_ne_nil {r : Row} (hr : r ∈ frameRows) : r.mask ≠ [] := by
  revert r
  decide

/-- Settles O4: a word that fits a row is taken apart by it; a word that decodes is the encoding of its instruction, whose
fixed bytes are those of its row. -/
theorem decoderFollowsTheOpcodeTable : Obligations.DecoderFollowsTheOpcodeTable := by
  refine ⟨fun r hr bs fits => ?fits, fun bs i hlen hdec => ?decodes⟩
  case fits =>
    obtain h | h := List.mem_append.1 hr
    · exact decodeWord_of_fits_inbound h fits
    · exact decodeWord_of_fits_outbound h fits
  case decodes =>
    obtain ⟨henc, wf⟩ := encode_of_decodeWord hdec
    obtain ⟨r, hr, hmn, fits⟩ := fixedBytes i wf
    have hframe : r ∈ frameRows := mem_frameRows hr (hmn ▸ mnemonic_not_operation henc hlen)
    exact ⟨r, hframe, fits bs henc (mask_ne_nil hframe), hmn⟩

/-- Settles O1: each word is taken apart by the decoder, offset by offset. -/
theorem wordsDecodeToTheirInstructions : Obligations.WordsDecodeToTheirInstructions :=
  ⟨rfl, rfl, rfl, rfl, rfl, rfl, rfl, rfl, rfl, rfl, rfl, rfl⟩

end Sys2Proof
end

section
/-! PROOF. Instructions and steps on the whole machine: what each completes with and leaves unchanged (R36, R38, R89,
R122). -/

namespace Sys2Proof.Machine

/-! ## Instructions -/

/-- An instruction that feeds bytes feeds the word it is encoded as, one `feed` call per byte (R89, R126). -/
theorem exec_eq_feedBytes {i : Instr} (feeds : feedCalls i ≠ 0) :
    ∃ bs, encode i = .word bs ∧ bs.length = feedCalls i ∧ ∀ s, exec i s = .next (s.feedBytes bs) := by
  cases i
  case sleep | wake | qfw | setPeriod | enc | reset => exact absurd rfl feeds
  all_goals exact ⟨_, rfl, rfl, fun _ => rfl⟩

theorem exec_reset (s : State) : exec .reset s = .next (s.setDec Decoder.reset).quiet := rfl

/-- Settles O9: an instruction feeds its word, makes an `encode` call, or resets; each leaves the rest of the state as it
was. -/
theorem everyInstructionCompletes : Obligations.EveryInstructionCompletes := by
  intro i s
  by_cases feeds : feedCalls i = 0
  · by_cases isReset : i = .reset
    · subst isReset
      exact ⟨_, exec_reset s, fun n hn => by rw [quiet_decoderAt, setDec_decoderAt_other s _ hn],
        fun _ h => absurd rfl h, rfl, rfl, rfl, rfl, by simp⟩
    · obtain ⟨c, p, isEnc⟩ := exec_eq_exec_enc feeds isReset
      exact ⟨_, (isEnc s).trans (exec_enc c p s), fun _ _ => rfl, fun _ _ => rfl, rfl, rfl, rfl, feeds.symm,
        by simp [feeds, isReset]⟩
  · obtain ⟨bs, -, hlen, hx⟩ := exec_eq_feedBytes feeds
    exact ⟨_, hx s, fun n hn => feedBytes_decoderAt_other s bs hn, fun h => absurd h feeds, rfl, rfl, rfl,
      by simp [hlen], by simp [Nat.pos_of_ne_zero feeds]⟩

/-- Settles O54: the three kinds of instruction read the registers of the decoder being stepped, the templates or
nothing. -/
theorem instancesAreIsolated : Obligations.InstancesAreIsolated := by
  intro i s s' t t' sameDec sameTemplates hx hx'
  by_cases feeds : feedCalls i = 0
  · by_cases isReset : i = .reset
    · subst isReset
      cases hx
      cases hx'
      simp
    · obtain ⟨c, p, isEnc⟩ := exec_eq_exec_enc feeds isReset
      rw [isEnc, exec_enc] at hx hx'
      cases hx
      cases hx'
      simp [sameDec, sameTemplates]
  · obtain ⟨bs, -, -, isFeed⟩ := exec_eq_feedBytes feeds
    rw [isFeed] at hx hx'
    cases hx
    cases hx'
    simp [sameDec]

/-- Settles O11. -/
theorem resetClearsTheInstance : Obligations.ResetClearsTheInstance := fun s => exec_reset s

/-- Settles O10: an unlisted decoder holds the reset registers. -/
theorem resetStateHoldsTheResetValues : Obligations.ResetStateHoldsTheResetValues := by
  refine ⟨fun n => ?_, rfl, rfl⟩
  rw [reset_decoderAt]
  exact ⟨rfl, rfl, rfl, rfl, rfl, rfl, rfl, rfl, rfl, rfl⟩

/-! ## Steps -/

theorem step_of_pending_nil {s : State} (h : s.pending = []) : step s = .next s.quiet := by
  simp [step, fetch, h]

theorem step_of_decode_ok {s : State} {l : Line} {rest : List Line} {i : Instr} (h : s.pending = l :: rest)
    (hd : decode l.code = .ok i) : step s = exec i (s.take l.stream rest) := by
  simp [step, fetch, h, workOf_ok hd]

theorem step_of_decode_error {s : State} {k : Nat} {bs : List Byte} {rest : List Line} {e : WordError}
    (h : s.pending = ⟨k, .word bs⟩ :: rest) (hd : decode (.word bs) = .error e) :
    step s = .next ((s.take k rest).feedBytes bs) := by
  simp [step, fetch, h, workOf_error hd, execFeeds]

/-- Settles O5. -/
theorem stepRunsTheDecodedInstruction : Obligations.StepRunsTheDecodedInstruction :=
  fun _ _ _ _ h hd => step_of_decode_ok h hd

/-- Settles O6: the placed line is the oldest one, and taking it gives back the state in which it was placed. -/
theorem placedWordIsRunByTheNextStep : Obligations.PlacedWordIsRunByTheNextStep := by
  intro s nbits w i h
  have hd : decode (.word (tableBytes nbits w)) = .ok i := by
    cases hw : decodeWord (tableBytes nbits w) with
    | ok j => simpa [decodeTableWord, decode, hw, Except.toOption] using h
    | error e => simp [decodeTableWord, hw, Except.toOption] at h
  have placed : (s.withFetchWord nbits w).pending = ⟨s.inst, .word (tableBytes nbits w)⟩ :: s.pending := rfl
  have taken : (s.withFetchWord nbits w).take s.inst s.pending = s := rfl
  rw [step_of_decode_ok placed hd, taken]

/-- Settles O7. -/
theorem stepFeedsAWordOfNoRow : Obligations.StepFeedsAWordOfNoRow :=
  fun _ _ _ _ _ h hd => ⟨_, _, rfl, step_of_decode_error h hd⟩

/-- Settles O8. -/
theorem stepWithNothingPendingChangesNothing : Obligations.StepWithNothingPendingChangesNothing :=
  fun s h => ⟨s.quiet, step_of_pending_nil h, fun _ => rfl, rfl, rfl, h, rfl, rfl⟩

/-- Settles O58: with a line taken, what runs is an instruction, which completes, or the line's bytes, which are fed. -/
theorem everyStepCompletes : Obligations.EveryStepCompletes := by
  intro s
  obtain ⟨hp, hx⟩ | ⟨l, rest, i, hp, -, hx⟩ | ⟨k, bs, -, rest, hp, -, hx⟩ := step_cases s
  case inl => exact ⟨_, hx, by simp [hp], rfl, fun _ _ => rfl⟩
  case inr.inl =>
    obtain ⟨t, run, others, -, -, templates, pending, -⟩ := everyInstructionCompletes i (s.take l.stream rest)
    refine ⟨t, hx.trans run, by simp [pending, hp], templates, fun n hn => ?_⟩
    exact others n (hn l (by simp [hp]))
  case inr.inr =>
    refine ⟨_, hx, by simp [hp], rfl, fun n hn => ?_⟩
    exact feedBytes_decoderAt_other (s.take k rest) bs (hn ⟨k, .word bs⟩ (by simp [hp]))

/-- Settles O55: the next state is the one that the step completes with. -/
theorem noStepChangesTheTemplates : Obligations.NoStepChangesTheTemplates := by
  intro s t run
  obtain ⟨u, run', -, templates, -⟩ := everyStepCompletes s
  cases run'.symm.trans run
  exact templates

/-! ## A frame and its FEED lines -/

/-- FEED lines run one after another: the registers and outputs of `feedAll`, with the rest of the state as it was (R59,
R89). -/
theorem execSeq_map_feed (bs : List Byte) (s : State) :
    ∃ u, execSeq (bs.map .feed) s = some (u, (feedAll s.dec bs).2)
      ∧ u.dec = (feedAll s.dec bs).1 ∧ (∀ n, n ≠ s.inst → u.decoderAt n = s.decoderAt n)
      ∧ u.inst = s.inst ∧ u.templates = s.templates ∧ u.pending = s.pending := by
  induction bs generalizing s with
  | nil => exact ⟨s, rfl, rfl, fun _ _ => rfl, rfl, rfl, rfl⟩
  | cons b rest ih =>
    obtain ⟨u, run, dec, others, inst, templates, pending⟩ := ih (s.fed (feed s.dec b).1 (feed s.dec b).2)
    rw [fed_dec] at run dec
    refine ⟨u, ?_, dec, fun n hn => ?_, inst, templates, pending⟩
    · simp only [List.map_cons, execSeq, exec_feed, run, Option.map_some]
      rfl
    · exact (others n hn).trans (setDec_decoderAt_other s _ hn)

/-- Settles O35: both sides end with the registers and outputs of `feedAll` over the same bytes. -/
theorem aFrameIsItsFeedLines : Obligations.AFrameIsItsFeedLines := by
  intro p i s henc feeds
  obtain ⟨bs, henc', -, hx⟩ := exec_eq_feedBytes feeds
  obtain rfl : bs = p.bytes := by cases henc'.symm.trans henc; rfl
  obtain ⟨u, run, dec, others, inst, templates, pending⟩ := execSeq_map_feed p.bytes s
  refine ⟨_, u, _, hx s, run, rfl, fun n => ?_, templates.symm, pending.symm, inst.symm⟩
  by_cases hn : n = s.inst
  · have atInst : u.decoderAt s.inst = (feedAll s.dec p.bytes).1 := by rw [← dec, State.dec, inst]
    rw [hn, atInst, ← feedBytes_dec]
    rfl
  · rw [feedBytes_decoderAt_other s _ hn, others n hn]

/-- One step over a FEED line: the stream's decoder makes the `feed` call (R88, R195). -/
theorem step_feedLine {s : State} {k : Nat} {b : Byte} {rest : List Line}
    (h : s.pending = ⟨k, .word [b]⟩ :: rest) : step s = .next ((s.take k rest).feedBytes [b]) :=
  step_of_decode_ok h (decodeWord_one b)

theorem run_succ_of_step {s t : State} (n : Nat) (h : step s = .next t) : core.run (n + 1) s = core.run n t := by
  have hcore : core.step s = .next t := h
  simp only [Host.Core.run, hcore]

/-- Settles O36: each step feeds one byte to the decoder of stream `k`, and `feedAll` is the left fold. -/
theorem runOverFeedLinesIsTheLeftFold : Obligations.RunOverFeedLinesIsTheLeftFold := by
  intro bs
  induction bs with
  | nil => exact fun s k rest h => ⟨s, rfl, rfl, fun _ _ => rfl, h, rfl⟩
  | cons b bs ih =>
    intro s k rest h
    obtain ⟨t, run, dec, others, pending, templates⟩ :=
      ih ((s.take k (feedLines k bs ++ rest)).feedBytes [b]) k rest rfl
    have first : step s = .next ((s.take k (feedLines k bs ++ rest)).feedBytes [b]) := step_feedLine h
    have fed : ((s.take k (feedLines k bs ++ rest)).feedBytes [b]).decoderAt k = (feed (s.decoderAt k) b).1 :=
      feedBytes_dec (s.take k _) [b]
    refine ⟨t, (run_succ_of_step bs.length first).trans run, ?_, fun n hn => ?_, pending, templates⟩
    · rw [dec, fed, List.foldl_cons]
    · rw [others n hn]
      exact feedBytes_decoderAt_other (s.take k _) [b] hn

end Sys2Proof.Machine
end

section
/-! PROOF. The Frame Decoder, state by state, continued: the states that branch, and the tail (R102, R107 to R111, R115 to
R120). -/

namespace Sys2Proof.Machine

/-- Where the state's rule drops, FEED clears the registers and puts out the cause (R189). -/
theorem exec_feed_of_feed_eq_raiseDrop {s : State} {b : Byte} {d : Decoder} {c : DropCause}
    (h : feed s.dec b = raiseDrop c d) : exec (.feed b) s = .next (s.fed Decoder.reset ⟨none, some c⟩) := by
  rw [exec_feed, h, raiseDrop_eq]

/-! ## The rules that branch, one equation per branch -/

theorem feedTag_other (d : Decoder) {b : Byte} (hMeas : b ≠ 0xC0) (hAck : b ≠ 0xC5) :
    feedTag d b = raiseDrop (.badTag b) d := by
  rw [feedTag, if_neg hMeas, if_neg hAck]

theorem feedSub_other (d : Decoder) {b : Byte} (h05 : b ≠ 0x05) (h06 : b ≠ 0x06) (h07 : b ≠ 0x07) (h08 : b ≠ 0x08) :
    feedSub d b = raiseDrop (.badSubkind b) d := by
  rw [feedSub, if_neg h05, if_neg h06, if_neg h07, if_neg h08]

theorem feedMode06_accepted (d : Decoder) {b : Byte} (h : b = 0x00 ∨ b = 0x01) :
    feedMode06 d b = silently { d with csumAcc := acc d.csumAcc b, st := .a06Val } := if_pos h

theorem feedMode06_other (d : Decoder) {b : Byte} (h0 : b ≠ 0x00) (h1 : b ≠ 0x01) :
    feedMode06 d b = raiseDrop (.badMode b) d := if_neg (not_or.2 ⟨h0, h1⟩)

theorem feedEnd_valid {d : Decoder} (h : d.csumValid = true) :
    feedEnd d 0xAB = (Decoder.reset, ⟨eventOf d, none⟩) := if_pos ⟨rfl, h⟩

theorem feedEnd_invalid {d : Decoder} (h : d.csumValid = false) :
    feedEnd d 0xAB = raiseDrop (.badChecksum d.kind) d := by simp [feedEnd, h]

theorem feedEnd_other (d : Decoder) {b : Byte} (h : b ≠ 0xAB) :
    feedEnd d b = raiseDrop (.badEnd b d.kind d.csumValid) d := by
  rw [feedEnd, if_neg fun hb => h hb.1, if_pos h]

theorem feedEnd_fst (d : Decoder) (b : Byte) : (feedEnd d b).1 = Decoder.reset := by
  unfold feedEnd
  split_ifs <;> rfl

/-! ## The statements -/

/-- Settles O13. -/
theorem sourceTagRoutesTheFrame : Obligations.SourceTagRoutesTheFrame := by
  intro s b hst
  have rule := feed_at_sTag b hst
  refine ⟨?meas, ?ack, fun hMeas hAck => ?other⟩
  case meas => rintro rfl; exact exec_feed_of_feed_eq_silently rule
  case ack => rintro rfl; exact exec_feed_of_feed_eq_silently rule
  case other => exact exec_feed_of_feed_eq_raiseDrop (rule.trans (feedTag_other s.dec hMeas hAck))

/-- Settles O15. -/
theorem subDiscriminatorRoutesTheAcknowledgement : Obligations.SubDiscriminatorRoutesTheAcknowledgement := by
  intro s b hst
  have rule := feed_at_aSub b hst
  refine ⟨?ack05, ?ack06, ?ack07, ?ack08, fun h05 h06 h07 h08 => ?other⟩
  case other => exact exec_feed_of_feed_eq_raiseDrop (rule.trans (feedSub_other s.dec h05 h06 h07 h08))
  all_goals
    rintro rfl
    exact exec_feed_of_feed_eq_silently rule

/-- Settles O16. -/
theorem fillerBytesAreOnlySummed : Obligations.FillerBytesAreOnlySummed := by
  intro s b
  refine ⟨fun hst => ?fill0, fun hst => ?fill1⟩
  case fill0 => exact exec_feed_of_feed_eq_silently (feed_at_a05F0 b hst)
  case fill1 => exact exec_feed_of_feed_eq_silently (feed_at_a05F1 b hst)

/-- Settles O17. -/
theorem onlyTheAck06ModeIsChecked : Obligations.OnlyTheAck06ModeIsChecked := by
  intro s b
  refine ⟨fun hst hb => ?accepted, fun hst h0 h1 => ?other, fun hst => ?mode08⟩
  case accepted => exact exec_feed_of_feed_eq_silently ((feed_at_a06Mode b hst).trans (feedMode06_accepted s.dec hb))
  case other => exact exec_feed_of_feed_eq_raiseDrop ((feed_at_a06Mode b hst).trans (feedMode06_other s.dec h0 h1))
  case mode08 => exact exec_feed_of_feed_eq_silently (feed_at_a08Mode b hst)

/-- Settles O18. -/
theorem singleByteFieldsAreCaptured : Obligations.SingleByteFieldsAreCaptured := by
  intro s b
  refine ⟨fun hst => ?sleepVal, fun hst => ?period⟩
  case sleepVal => exact exec_feed_of_feed_eq_silently (feed_at_a06Val b hst)
  case period => exact exec_feed_of_feed_eq_silently (feed_at_a08Val b hst)

/-- Settles O20. -/
theorem deviceIdBytesAreAccumulated : Obligations.DeviceIdBytesAreAccumulated := by
  intro s b
  refine ⟨fun hst => ?idLo, fun hst => ?idHi, fun hst => ?checksum, fun hst => ?endMarker⟩
  case idLo => exact exec_feed_of_feed_eq_silently (feed_at_tIdLo b hst)
  case idHi => exact exec_feed_of_feed_eq_silently (feed_at_tIdHi b hst)
  case checksum => exact ⟨_, exec_feed_of_feed_eq_silently (feed_at_tCsum b hst), by rw [fed_dec], by rw [fed_dec]⟩
  case endMarker => exact ⟨_, exec_feed s b, by rw [fed_dec, feed_at_tEnd b hst, feedEnd_fst]⟩

/-- Settles O22: T_END's three branches; on the valid one the kind chooses the event. -/
theorem endMarkerClosesTheFrame : Obligations.EndMarkerClosesTheFrame := by
  intro s b hst
  have rule := feed_at_tEnd b hst
  refine ⟨?valid, ?mismatch, fun hb => ?other⟩
  case valid =>
    rintro rfl hv
    rw [exec_feed, rule, feedEnd_valid hv]
    refine ⟨?_, ?_, ?_, ?_, ?_⟩ <;> intro hk <;> rw [eventOf, hk] <;> rfl
  case mismatch =>
    rintro rfl hv
    exact exec_feed_of_feed_eq_raiseDrop (rule.trans (feedEnd_invalid hv))
  case other => exact exec_feed_of_feed_eq_raiseDrop (rule.trans (feedEnd_other s.dec hb))

end Sys2Proof.Machine
end

section
/-! PROOF. Rules of the whole decoder: what a `feed` call can do to the registers, said once, and what follows from
it. -/

namespace Sys2Proof.Machine

/-! ## What a `feed` call can do to the registers -/

/-- How many bytes an attempt can still take in a state, the offending byte or the end marker included (R126). -/
def St.bytesLeft : St → Nat
  | .sIdle => 10
  | .sTag => 9
  | .mPm25Lo => 8
  | .mPm25Hi => 7
  | .mPm10Lo => 6
  | .mPm10Hi => 5
  | .aSub => 8
  | .a05F0 => 6
  | .a05F1 => 5
  | .a06Mode => 6
  | .a06Val => 5
  | .a07B0 => 7
  | .a07B1 => 6
  | .a07B2 => 5
  | .a08Mode => 6
  | .a08Val => 5
  | .tIdLo => 4
  | .tIdHi => 3
  | .tCsum => 2
  | .tEnd => 1

/-- What holds of the registers `d'` after a `feed` call with the byte `b` on the registers `d` that carried an attempt
on. -/
structure GoesOn (d : Decoder) (b : Byte) (d' : Decoder) : Prop where
  stays : d'.st ≠ .sIdle
  notEnd : d.st ≠ .tEnd
  /-- R131: the start marker, the source tag and the checksum byte are not summed. -/
  sum : d'.csumAcc = if d.st = .sIdle ∨ d.st = .sTag ∨ d.st = .tCsum then d.csumAcc else acc d.csumAcc b
  flag : d.st ≠ .tCsum → d'.csumValid = d.csumValid
  left : d'.st.bytesLeft < d.st.bytesLeft
  leftExactly : d.st ≠ .aSub → d'.st.bytesLeft + 1 = d.st.bytesLeft

/-- Everything a `feed` call can do to the registers: it clears them; it ignores a byte in S_IDLE; or it carries the
attempt on. -/
theorem feed_fst_cases (d : Decoder) (b : Byte) :
    (feed d b).1 = Decoder.reset ∨ (d.st = .sIdle ∧ (feed d b).1 = d) ∨ GoesOn d b (feed d b).1 := by
  cases hst : d.st
  case sIdle =>
    rw [feed_at_sIdle b hst, feedIdle]
    split
    · exact .inr (.inr (by constructor <;> simp [hst, St.bytesLeft]))
    · refine .inr (.inl ⟨rfl, ?_⟩)
      rw [silently_eq, ← hst]
  case sTag | aSub | a06Mode =>
    simp only [feed, hst, feedTag, feedSub, feedMode06]
    split_ifs
    case neg => exact .inl rfl
    all_goals exact .inr (.inr (by constructor <;> simp [hst, St.bytesLeft]))
  case tEnd => exact .inl (by rw [feed_at_tEnd b hst, feedEnd_fst])
  all_goals
    refine .inr (.inr ?_)
    simp only [feed, hst, feedPm25Lo, feedPm25Hi, feedPm10Lo, feedPm10Hi, feedFill0, feedFill1, feedSleepVal, feedFw0,
      feedFw1, feedFw2, feedMode08, feedPeriod, feedIdLo, feedIdHi, feedCsum, silently_eq]
    constructor <;> simp [hst, St.bytesLeft]

/-- A drop has one of the five causes, in its state, on its bytes, with its info (R180 to R187). -/
theorem feed_drop_cases {d : Decoder} {b : Byte} {c : DropCause} (h : (feed d b).2.drop = some c) :
    (d.st = .sTag ∧ b ≠ 0xC0 ∧ b ≠ 0xC5 ∧ c = .badTag b)
    ∨ (d.st = .aSub ∧ b ≠ 0x05 ∧ b ≠ 0x06 ∧ b ≠ 0x07 ∧ b ≠ 0x08 ∧ c = .badSubkind b)
    ∨ (d.st = .a06Mode ∧ b ≠ 0x00 ∧ b ≠ 0x01 ∧ c = .badMode b)
    ∨ (d.st = .tEnd ∧ b = 0xAB ∧ d.csumValid = false ∧ c = .badChecksum d.kind)
    ∨ (d.st = .tEnd ∧ b ≠ 0xAB ∧ c = .badEnd b d.kind d.csumValid) := by
  cases hst : d.st
  case sIdle => simp [feed_at_sIdle b hst, feedIdle_eq_silently] at h
  case sTag =>
    rw [feed_at_sTag b hst, feedTag] at h
    split_ifs at h <;> cases h
    exact .inl ⟨rfl, ‹_›, ‹_›, rfl⟩
  case aSub =>
    rw [feed_at_aSub b hst, feedSub] at h
    split_ifs at h <;> cases h
    exact .inr (.inl ⟨rfl, ‹_›, ‹_›, ‹_›, ‹_›, rfl⟩)
  case a06Mode =>
    rw [feed_at_a06Mode b hst, feedMode06] at h
    split_ifs at h with hb <;> cases h
    exact .inr (.inr (.inl ⟨rfl, fun h0 => hb (.inl h0), fun h1 => hb (.inr h1), rfl⟩))
  case tEnd =>
    rw [feed_at_tEnd b hst] at h
    by_cases hb : b = 0xAB
    · subst hb
      cases hv : d.csumValid
      · rw [feedEnd_invalid hv] at h
        cases h
        exact .inr (.inr (.inr (.inl ⟨rfl, rfl, rfl, rfl⟩)))
      · rw [feedEnd_valid hv] at h
        cases h
    · rw [feedEnd_other d hb] at h
      cases h
      exact .inr (.inr (.inr (.inr ⟨rfl, hb, rfl⟩)))
  all_goals
    simp [feed, hst, feedPm25Lo, feedPm25Hi, feedPm10Lo, feedPm10Hi, feedFill0, feedFill1, feedSleepVal, feedFw0,
      feedFw1, feedFw2, feedMode08, feedPeriod, feedIdLo, feedIdHi, feedCsum] at h

/-- A kind that has an event is none of K_NONE and K_ACK05 (R120, R150). -/
theorem kind_of_eventOf {d : Decoder} {e : DecodedEvent} (h : eventOf d = some e) :
    d.kind ≠ .none ∧ d.kind ≠ .ack05 := by
  constructor <;> intro hk <;> simp [eventOf, hk] at h

/-! ## The statements -/

@[simp] theorem fed_events (s : State) (d : Decoder) (r : FeedResult) : (s.fed d r).events = r.event.toList := by
  cases h : r.event <;> simp [State.events, State.fed, h]

@[simp] theorem fed_drops (s : State) (d : Decoder) (r : FeedResult) : (s.fed d r).drops = r.drop.toList := by
  cases h : r.drop <;> simp [State.drops, State.fed, h]

/-- Settles O21: T_CSUM's rule is the comparison; in every other state a call that carries on keeps the flag. -/
theorem checksumByteIsComparedNotSummed : Obligations.ChecksumByteIsComparedNotSummed := by
  intro s b
  refine ⟨fun hst => ?compared, fun hst => ⟨_, exec_feed s b, ?_⟩⟩
  case compared => exact exec_feed_of_feed_eq_silently (feed_at_tCsum b hst)
  rw [fed_dec]
  obtain h | ⟨-, h⟩ | h := feed_fst_cases s.dec b
  · exact .inr h
  · exact .inl (congrArg _ h)
  · exact .inl (h.flag hst)

/-- Settles O23: only a call that carries on sums a byte, in the states of R131. -/
theorem exactlyThePayloadBytesAreSummed : Obligations.ExactlyThePayloadBytesAreSummed := by
  intro s t b run
  rw [exec_feed] at run
  cases run
  rw [fed_dec]
  refine ⟨fun stays => ?summed, fun hst => ?idle, fun hst => ?atEnd⟩
  case summed =>
    obtain h | ⟨hst, h⟩ | goesOn := feed_fst_cases s.dec b
    · exact absurd (congrArg Decoder.st h) stays
    · exact absurd ((congrArg Decoder.st h).trans hst) stays
    · simp only [goesOn.sum, goesOn.notEnd, or_false]
      split_ifs
      · rfl
      · exact acc_toNat _ _
  case idle => rw [feed_at_sIdle b hst, feedIdle_eq_silently, silently_eq]
  case atEnd =>
    rw [feed_at_tEnd b hst, feedEnd_fst]
    exact ⟨rfl, rfl⟩

/-- Settles O25: of the three outputs a `feed` call can have, the one with an event is that of a valid frame's end. -/
theorem eventsComeOnlyFromTheEndMarker : Obligations.EventsComeOnlyFromTheEndMarker := by
  intro s t b e run he
  rw [exec_feed] at run
  cases run
  rw [fed_events, Option.mem_toList] at he
  obtain h | ⟨c, h⟩ | ⟨hst, hb, hv, h⟩ := feed_cases s.dec b
  case inl => simp [h] at he
  case inr.inl => simp [h] at he
  case inr.inr =>
    have hev : eventOf s.dec = some e := by simpa only [h] using he
    obtain ⟨notNone, notAck05⟩ := kind_of_eventOf hev
    exact ⟨hst, hb, hv, notNone, notAck05, by simp [h, hev], by simp [h], by simp [h]⟩

/-- Settles O26: of the three outputs a `feed` call can have, the one with a cause is that of a drop, which has five
causes. -/
theorem aDropOnlyResynchronises : Obligations.ADropOnlyResynchronises := by
  intro s t b c run hc
  rw [exec_feed] at run
  cases run
  rw [fed_drops, Option.mem_toList] at hc
  have causes := feed_drop_cases hc
  obtain h | ⟨c', h⟩ | ⟨-, -, -, h⟩ := feed_cases s.dec b
  case inl => simp [h] at hc
  case inr.inl => exact ⟨by simp [hc], by simp [h], by simp [h], causes⟩
  case inr.inr => simp [h] at hc

/-- As O27, with the bound of the state. -/
theorem exists_take_eq_reset {d : Decoder} {bs : List Byte} (h : d.meaningful = true)
    (enough : d.st.bytesLeft ≤ bs.length) :
    ∃ k, 1 ≤ k ∧ k ≤ d.st.bytesLeft ∧ (feedAll d (bs.take k)).1 = Decoder.reset := by
  have some_left : 1 ≤ d.st.bytesLeft := by cases d.st <;> decide
  induction bs generalizing d with
  | nil => simp at enough; omega
  | cons b rest ih =>
    obtain hreset | ⟨hst, ignored⟩ | goesOn := feed_fst_cases d b
    · exact ⟨1, le_rfl, some_left, hreset⟩
    · refine ⟨1, le_rfl, some_left, ?_⟩
      exact ignored.trans (eq_reset_of_meaningful_of_sIdle h hst)
    · have closer := goesOn.left
      simp only [List.length_cons] at enough
      obtain ⟨k, -, hk, hreset⟩ := ih (feed_meaningful b h) (by omega) (by cases (feed d b).1.st <;> decide)
      exact ⟨k + 1, by omega, by omega, hreset⟩

/-- Settles O27: each byte brings the end of the attempt closer, and no state has more than ten bytes left. -/
theorem noAttemptOutlastsTenBytes : Obligations.NoAttemptOutlastsTenBytes := by
  intro d bs h enough
  have bound : d.st.bytesLeft ≤ 10 := by cases d.st <;> decide
  obtain ⟨k, hk, hk', hreset⟩ := exists_take_eq_reset h (bound.trans enough)
  exact ⟨k, hk, hk'.trans bound, hreset⟩

theorem feed_reset_of_ne {b : Byte} (h : b ≠ 0xAA) : feed Decoder.reset b = (Decoder.reset, ⟨none, none⟩) :=
  if_neg h

/-- Settles O38. -/
theorem bytesWithoutAStartMarkerAreIgnored : Obligations.BytesWithoutAStartMarkerAreIgnored := by
  intro g
  induction g with
  | nil => intro _; rfl
  | cons b rest ih =>
    intro h
    obtain ⟨hb, hrest⟩ := List.forall_mem_cons.1 h
    rw [feedAll, feed_reset_of_ne hb, ih hrest]
    rfl

end Sys2Proof.Machine
end

section
/-! PROOF. The laws of `Csum` (R132, R135), and the ports of events and causes (R39, R147 to R149, R180, R186). -/

namespace Sys2Proof.Machine

/-! ## The checksum is a sum -/

theorem csum_eq_sum (s : List Byte) : csum s = s.sum := by
  induction s with
  | nil => rfl
  | cons b rest ih => rw [csum_cons, List.sum_cons, ih]

theorem csum_append (s t : List Byte) : csum (s ++ t) = csum s + csum t := by
  simp only [csum_eq_sum, List.sum_append]

/-- The closed sum (R132). -/
theorem csum_toNat (s : List Byte) : (csum s).toNat = (s.map BitVec.toNat).sum % 256 := by
  induction s with
  | nil => rfl
  | cons b rest ih => simp only [csum_cons, BitVec.toNat_add, ih, List.map_cons, List.sum_cons, Nat.add_mod_mod]

/-- A change of one byte changes the sum by the difference (R135). -/
theorem csum_set {s : List Byte} {o : Nat} (v : Byte) (h : o < s.length) :
    csum (s.set o v) = csum s + (v - byteAt s o) := by
  induction s generalizing o with
  | nil => simp at h
  | cons b rest ih =>
    cases o with
    | zero =>
      simp only [List.set_cons_zero, csum_cons, byteAt, List.getD_cons_zero]
      ring
    | succ o =>
      have tail := ih (o := o) (by simpa using h)
      simp only [List.set_cons_succ, csum_cons, tail, byteAt, List.getD_cons_succ]
      ring

theorem byteAt_set_ne {f : List Byte} {o i : Nat} (v : Byte) (h : o ≠ i) : byteAt (f.set i v) o = byteAt f o := by
  simp [byteAt, List.getElem?_set_ne h.symm]

theorem byteAt_set_same {f : List Byte} {i : Nat} (v : Byte) (h : i < f.length) : byteAt (f.set i v) i = v := by
  simp [byteAt, h]

/-- Settles O43. -/
theorem checksumLaws : Obligations.ChecksumLaws := by
  refine ⟨fun s t perm => ?permutation, fun s o v => csum_set v, fun s t => ?concatenation, csum_toNat, fun n => ?zeros⟩
  case permutation => rw [csum_eq_sum, csum_eq_sum, perm.sum_eq]
  case concatenation => rw [csum_append, BitVec.toNat_add]
  case zeros => rw [csum_eq_sum, List.sum_replicate, smul_zero]

/-! ## Ports -/

/-- Settles O52. -/
theorem eventPortsAreFunctionsOfTheRawPorts : Obligations.EventPortsAreFunctionsOfTheRawPorts := by
  intro a b id flag period version
  exact ⟨rfl, rfl, rfl, by simp [DecodedEvent.deviceId], rfl⟩

/-- Settles O53. -/
theorem causesHaveTheirCodes : Obligations.CausesHaveTheirCodes := fun _ _ _ _ _ => ⟨rfl, rfl, rfl⟩

end Sys2Proof.Machine
end

section
/-! PROOF. The Command Encoder, continued: its frames, offset by offset, and what the decoder makes of them (R160 to
R175). -/

namespace Sys2Proof.Machine

/-- `Build` in the closed form of R172. -/
theorem build_eq_commandFrame (sel : Byte) (P : Payload) : build sel P = commandFrame sel P := by
  have closed : csum (summedRegion sel P)
      = sel + (P.p3 + P.p4 + P.p5 + P.p6 + P.p7 + P.p8 + P.p9 + P.p10 + P.p11 + P.p12 + P.p13 + P.p14) + 0xFE := by
    have broadcast : broadcastByte + broadcastByte = 0xFE := by decide
    simp only [summedRegion, payloadBytes, List.cons_append, List.nil_append, csum_cons, csum_nil, ← broadcast]
    ring
  rw [build, closed]
  rfl

/-- Settles O44: the three commands build their selector's frame on their template, and look at no parameter. -/
theorem fixedCommandsReturnTheirTemplate : Obligations.FixedCommandsReturnTheirTemplate := by
  intro s p
  simp only [← build_eq_commandFrame]
  exact ⟨⟨rfl, rfl⟩, ⟨rfl, rfl⟩, rfl, rfl⟩

theorem exec_setPeriod (p : Int) (cs : Byte) (s : State) :
    exec (.setPeriod p cs) s = exec (.enc .setPeriod p) s := rfl

theorem exec_enc_setPeriod_accepted {p : Int} (s : State) (h0 : 0 ≤ p) (h1 : p ≤ 30) :
    exec (.enc .setPeriod p) s = .next (s.withEncOut
      (.frame (commandFrame 0x08 { s.templates.setPeriod with p4 := BitVec.ofInt 8 p }))) := by
  rw [exec_enc, encodeCommand, encodeSetPeriod_accepts s.templates h0 h1, build_eq_commandFrame, zext8]

theorem exec_enc_setPeriod_rejected {p : Int} (s : State) (h : p < 0 ∨ 30 < p) :
    exec (.enc .setPeriod p) s = .next (s.withEncOut (.rejected (.invalidParameter p))) := by
  rw [exec_enc, encodeCommand, encodeSetPeriod_rejects s.templates h]

/-- Settles O45. -/
theorem setPeriodWritesItsParameterOrRejectsIt : Obligations.SetPeriodWritesItsParameterOrRejectsIt := by
  intro s p cs
  rw [exec_setPeriod]
  refine ⟨fun h0 h1 => ?accepted, fun h => ?rejected⟩
  case accepted => exact ⟨exec_enc_setPeriod_accepted s h0 h1, exec_enc_setPeriod_accepted s h0 h1⟩
  case rejected => exact ⟨exec_enc_setPeriod_rejected s h, exec_enc_setPeriod_rejected s h⟩

/-- Settles O46: a code above 3 is none of the four that `commandOfCode` names. -/
theorem unknownCommandIsUnsupported : Obligations.UnknownCommandIsUnsupported := by
  intro s n p hn
  have unknown : commandOfCode n = .unknown n := commandOfCode_code (c := .unknown n) (decide_eq_true hn)
  exact ⟨by rw [decode, unknown], exec_enc _ p s⟩

/-- A frame that `encode` returns is the command frame of one of the three family selectors (R58). -/
theorem encodeCommand_eq_frame {T : Templates} {c : Command} {p : Int} {f : List Byte}
    (h : encodeCommand T c p = .frame f) :
    ∃ sel P, f = commandFrame sel P ∧ (sel = 0x06 ∨ sel = 0x07 ∨ sel = 0x08) := by
  obtain ⟨sel, P, hf, family⟩ | ⟨-, -, hr⟩ | ⟨n, -, hr⟩ := encodeCommand_cases T c p
  case inl =>
    rw [hf, build_eq_commandFrame] at h
    cases h
    refine ⟨sel, P, rfl, ?_⟩
    obtain ⟨-, hs, -⟩ | ⟨-, hs, -⟩ | ⟨-, hs, -⟩ | ⟨-, hs, -⟩ := family
    · exact .inl hs
    · exact .inl hs
    · exact .inr (.inl hs)
    · exact .inr (.inr hs)
  case inr.inl => cases hr.symm.trans h
  case inr.inr => cases hr.symm.trans h

/-- The frame on the ports after an instruction is what its `encode` call answered. -/
theorem encodeCommand_of_encOut {i : Instr} {s t : State} {f : List Byte} (run : exec i s = .next t)
    (hf : t.encOut = some (.frame f)) : ∃ c p, encodeCommand s.templates c p = .frame f := by
  obtain ⟨t', run', -, -, -, -, -, -, encodes⟩ := everyInstructionCompletes i s
  cases run'.symm.trans run
  have noNone : ¬ (0 < feedCalls i ∨ i = .reset) := fun h => by simp [encodes.2 h] at hf
  obtain ⟨c, p, isEnc⟩ := exec_eq_exec_enc (by omega) (fun h => noNone (.inr h))
  rw [isEnc, exec_enc] at run
  cases run
  exact ⟨c, p, Option.some.inj hf⟩

theorem frameWith_checksum (sel : Byte) (P : Payload) (cs : Byte) : byteAt (frameWith sel P cs) 17 = cs := rfl

theorem frameWith_region (sel : Byte) (P : Payload) (cs : Byte) :
    ((frameWith sel P cs).drop 2).take 15 = summedRegion sel P := rfl

/-- Settles O47: every frame on the ports is a command frame, whose offsets are written out. -/
theorem everyCommandFrameIsWellBuilt : Obligations.EveryCommandFrameIsWellBuilt := by
  intro i s t f run hf
  obtain ⟨c, p, henc⟩ := encodeCommand_of_encOut run hf
  obtain ⟨sel, P, rfl, family⟩ := encodeCommand_eq_frame henc
  refine ⟨rfl, rfl, rfl, family, rfl, rfl, ?checksum, rfl⟩
  rw [← csum_toNat, ← build_eq_commandFrame, build, frameWith_checksum, frameWith_region]

/-- A command frame determines its payload. -/
theorem commandFrame_payload_injective {sel : Byte} {P Q : Payload} (h : commandFrame sel P = commandFrame sel Q) :
    P = Q := by
  cases P
  cases Q
  simp only [commandFrame, List.cons.injEq] at h
  simp [h]

/-- The byte at offset 4 is seen at offset 17 too, and nowhere else (R167, R172). -/
theorem commandFrame_with_p4 (sel : Byte) (P : Payload) (b : Byte) :
    commandFrame sel { P with p4 := b }
      = ((commandFrame sel P).set 4 b).set 17 (byteAt (commandFrame sel { P with p4 := b }) 17) := by
  simp [commandFrame, byteAt]

/-- Settles O48. -/
theorem sleepAndWakeFramesDiffer : Obligations.SleepAndWakeFramesDiffer := by
  intro s t u distinct runSleep runWake same
  rw [(fixedCommandsReturnTheirTemplate s 0).1.1] at runSleep
  rw [(fixedCommandsReturnTheirTemplate s 0).2.1.1] at runWake
  cases runSleep
  cases runWake
  exact distinct (commandFrame_payload_injective (EncResult.frame.inj (Option.some.inj same)))

/-- Settles O49: the two frames are the same but for the parameter's byte and the checksum, which sums it. -/
theorem periodFramesDifferByTheParameter : Obligations.PeriodFramesDifferByTheParameter := by
  intro s p q hp0 hp1 hq0 hq1
  refine ⟨_, _, _, _, exec_enc_setPeriod_accepted s hp0 hp1, exec_enc_setPeriod_accepted s hq0 hq1, rfl, rfl,
    zext8_toNat hp0 (by omega), zext8_toNat hq0 (by omega), ?checksum, fun o h4 h17 => ?others⟩
  case checksum =>
    simp only [byteAt, commandFrame, List.getD_cons_succ, List.getD_cons_zero]
    ring
  case others =>
    rw [commandFrame_with_p4, byteAt_set_ne _ h17, byteAt_set_ne _ h4]
    conv => rhs; rw [commandFrame_with_p4, byteAt_set_ne _ h17, byteAt_set_ne _ h4]

/-- The outbound tag is no source tag, so the attempt is dropped there, and the rest starts from the reset state (R175,
R191). -/
theorem feedAll_commandFrame (sel : Byte) (P : Payload) :
    feedAll Decoder.reset (commandFrame sel P)
      = ((feedAll Decoder.reset ((commandFrame sel P).drop 2)).1,
          ⟨none, none⟩ :: ⟨none, some (.badTag 0xB4)⟩ :: (feedAll Decoder.reset ((commandFrame sel P).drop 2)).2) := by
  have split : commandFrame sel P = [0xAA, 0xB4] ++ (commandFrame sel P).drop 2 := rfl
  have head : feedAll Decoder.reset [0xAA, 0xB4] = (Decoder.reset, [⟨none, none⟩, ⟨none, some (.badTag 0xB4)⟩]) := rfl
  generalize (commandFrame sel P).drop 2 = rest at split
  rw [split, feedAll_append, head]
  rfl

/-- Settles O51. -/
theorem aCommandFrameIsNoInboundFrame : Obligations.ACommandFrameIsNoInboundFrame := by
  intro T c p f henc
  obtain ⟨sel, P, rfl, -⟩ := encodeCommand_eq_frame henc
  refine ⟨⟨_, _, rfl, feedAll_commandFrame sel P⟩, fun noStart => ?_⟩
  rw [feedAll_commandFrame, bytesWithoutAStartMarkerAreIgnored _ noStart]
  rfl

end Sys2Proof.Machine
end

section
/-! PROOF. Frames: what a decoder in its reset state makes of a frame, from the offset maps (R57, R81, R83, R134). -/

namespace Sys2Proof.Machine

/-! ## The offset maps -/

/-- The part of R134 that is settled before the tail: length, start marker, discriminators and the ACK06 mode. -/
structure Headed (k : Kind) (f : List Byte) : Prop where
  kind : k ≠ .none
  length : f.length = k.length
  start : byteAt f 0 = 0xAA
  discriminated : k.discriminatedBy f = true
  mode : k = .ack06 → byteAt f 3 = 0x00 ∨ byteAt f 3 = 0x01

theorem validFrame_iff {k : Kind} {f : List Byte} :
    validFrame k f = true ↔
      Headed k f ∧ byteAt f (f.length - 2) = csum (payloadRegion f) ∧ byteAt f (f.length - 1) = 0xAB := by
  simp only [validFrame, Bool.and_eq_true, Bool.or_eq_true, decide_eq_true_eq, beq_iff_eq]
  constructor
  · rintro ⟨⟨⟨⟨⟨⟨hk, hlen⟩, h0⟩, hd⟩, hm⟩, hcs⟩, hend⟩
    exact ⟨⟨hk, hlen, h0, hd, by tauto⟩, hcs, hend⟩
  · rintro ⟨⟨hk, hlen, h0, hd, hm⟩, hcs, hend⟩
    exact ⟨⟨⟨⟨⟨⟨hk, hlen⟩, h0⟩, hd⟩, by tauto⟩, hcs⟩, hend⟩

/-- The field registers that a frame of kind `k` fills, read off its offsets; the others hold their cleared value (R33,
R57). -/
def fieldsOf (k : Kind) (f : List Byte) : Decoder :=
  match k with
  | .none => Decoder.reset
  | .meas =>
    { Decoder.reset with pm25Raw := le16 (byteAt f 2) (byteAt f 3), pm10Raw := le16 (byteAt f 4) (byteAt f 5) }
  | .ack05 => Decoder.reset
  | .ack06 => { Decoder.reset with sleepFlag := byteAt f 4 }
  | .ack07 => { Decoder.reset with firmwareRaw := le24 (byteAt f 3) (byteAt f 4) (byteAt f 5) }
  | .ack08 => { Decoder.reset with periodValue := byteAt f 4 }

/-- The registers after the second device-id byte of a frame of kind `k`. -/
def registersOf (k : Kind) (f : List Byte) : Decoder :=
  { fieldsOf k f with st := .tCsum, kind := k, deviceId := frameDeviceId f, csumAcc := csum (payloadRegion f) }

/-- A frame up to its second device-id byte is taken in silently, and its fields stand in their registers. -/
theorem feedAll_payload {k : Kind} {f : List Byte} (h : Headed k f) :
    feedAll Decoder.reset (f.take (f.length - 2)) = (registersOf k f, List.replicate (f.length - 2) .silent) := by
  obtain ⟨hk, hlen, h0, hd, hm⟩ := h
  cases k
  case none => exact absurd rfl hk
  all_goals
    simp only [registersOf, fieldsOf, frameDeviceId, ← le16Hi_le16Lo, ← le24B2_le24B1_le24B0]
  case meas =>
    match f, hlen with
    | [b0, b1, b2, b3, b4, b5, b6, b7, b8, b9], _ =>
      obtain rfl : b0 = 0xAA := h0
      obtain rfl : b1 = 0xC0 := by simpa [Kind.discriminatedBy, byteAt] using hd
      rfl
  case ack07 =>
    match f, hlen with
    | [b0, b1, b2, b3, b4, b5, b6, b7, b8, b9], _ =>
      obtain rfl : b0 = 0xAA := h0
      obtain ⟨rfl, rfl⟩ : b1 = 0xC5 ∧ b2 = 0x07 := by simpa [Kind.discriminatedBy, byteAt] using hd
      rfl
  case ack05 =>
    match f, hlen with
    | [b0, b1, b2, b3, b4, b5, b6, b7, b8], _ =>
      obtain rfl : b0 = 0xAA := h0
      obtain ⟨rfl, rfl⟩ : b1 = 0xC5 ∧ b2 = 0x05 := by simpa [Kind.discriminatedBy, byteAt] using hd
      rfl
  case ack06 =>
    match f, hlen with
    | [b0, b1, b2, b3, b4, b5, b6, b7, b8], _ =>
      obtain rfl : b0 = 0xAA := h0
      obtain ⟨rfl, rfl⟩ : b1 = 0xC5 ∧ b2 = 0x06 := by simpa [Kind.discriminatedBy, byteAt] using hd
      obtain rfl | rfl : b3 = 0x00 ∨ b3 = 0x01 := hm rfl <;> rfl
  case ack08 =>
    match f, hlen with
    | [b0, b1, b2, b3, b4, b5, b6, b7, b8], _ =>
      obtain rfl : b0 = 0xAA := h0
      obtain ⟨rfl, rfl⟩ : b1 = 0xC5 ∧ b2 = 0x08 := by simpa [Kind.discriminatedBy, byteAt] using hd
      rfl

/-! ## The tail -/

/-- The checksum byte and the last byte of a frame (R119, R120). -/
theorem feedAll_tail {d : Decoder} (hst : d.st = .tCsum) (cs last : Byte) :
    feedAll d [cs, last]
      = (Decoder.reset,
          [.silent, (feedEnd { d with csumValid := csumMatches cs d.csumAcc, st := .tEnd } last).2]) := by
  have atEnd : feed { d with csumValid := csumMatches cs d.csumAcc, st := .tEnd } last
      = feedEnd { d with csumValid := csumMatches cs d.csumAcc, st := .tEnd } last := feed_at_tEnd last rfl
  simp only [feedAll, feed_at_tCsum cs hst, feedCsum, silently_eq, atEnd, feedEnd_fst]

theorem eq_take_append_last_two {f : List Byte} (h : 2 ≤ f.length) :
    f = f.take (f.length - 2) ++ [byteAt f (f.length - 2), byteAt f (f.length - 1)] := by
  have tail : f.drop (f.length - 2) = [byteAt f (f.length - 2), byteAt f (f.length - 1)] := by
    rw [List.drop_eq_getElem_cons (by omega), List.drop_eq_getElem_cons (by omega), List.drop_of_length_le (by omega)]
    simp [byteAt, show f.length - 2 + 1 = f.length - 1 by omega, show f.length - 2 < f.length by omega,
      show f.length - 1 < f.length by omega]
  rw [← tail, List.take_append_drop]

theorem lastOnly_eq {n : Nat} (h : 2 ≤ n) (r : FeedResult) :
    lastOnly n r = List.replicate (n - 2) .silent ++ [.silent, r] := by
  obtain ⟨m, rfl⟩ := Nat.exists_eq_add_of_le' h
  simp [lastOnly, List.replicate_succ']

theorem Headed.nine_le_length {k : Kind} {f : List Byte} (h : Headed k f) : 9 ≤ f.length := by
  rw [h.length]
  cases k
  case none => exact absurd rfl h.kind
  all_goals decide

/-- A frame is silent up to its last byte, where T_END's rule answers, and leaves the reset state. -/
theorem feedAll_headed {k : Kind} {f : List Byte} (h : Headed k f) :
    feedAll Decoder.reset f
      = (Decoder.reset, lastOnly f.length (feedEnd
          { registersOf k f with
            csumValid := csumMatches (byteAt f (f.length - 2)) (csum (payloadRegion f)), st := .tEnd }
          (byteAt f (f.length - 1))).2) := by
  have len : 2 ≤ f.length := Nat.le_trans (by decide) h.nine_le_length
  have split := eq_take_append_last_two len
  have payload := feedAll_payload h
  have tail := feedAll_tail (d := registersOf k f) rfl (byteAt f (f.length - 2)) (byteAt f (f.length - 1))
  rw [lastOnly_eq len]
  conv => lhs; rw [split, feedAll_append, payload, tail]
  rfl

theorem eventOf_registersOf {k : Kind} (f : List Byte) (valid : Bool) :
    eventOf { registersOf k f with csumValid := valid, st := .tEnd } = frameEvent k f := by
  cases k <;> rfl

/-- A valid frame gives its event on its last byte (R134). -/
theorem feedAll_validFrame {k : Kind} {f : List Byte} (h : validFrame k f = true) :
    feedAll Decoder.reset f = (Decoder.reset, lastOnly f.length ⟨frameEvent k f, none⟩) := by
  obtain ⟨headed, checksum, endMarker⟩ := validFrame_iff.1 h
  rw [feedAll_headed headed, endMarker, feedEnd_valid ((csumMatches_iff _ _).2 checksum), eventOf_registersOf]

/-- A frame with a wrong checksum byte is dropped on its end marker (R184). -/
theorem feedAll_wrong_checksum {k : Kind} {f : List Byte} (h : Headed k f)
    (checksum : byteAt f (f.length - 2) ≠ csum (payloadRegion f)) (endMarker : byteAt f (f.length - 1) = 0xAB) :
    feedAll Decoder.reset f = (Decoder.reset, lastOnly f.length ⟨none, some (.badChecksum k)⟩) := by
  have mismatch : csumMatches (byteAt f (f.length - 2)) (csum (payloadRegion f)) = false :=
    Bool.eq_false_iff.2 fun hm => checksum ((csumMatches_iff _ _).1 hm)
  rw [feedAll_headed h, endMarker, feedEnd_invalid mismatch]
  rfl

/-- A frame with a wrong end marker is dropped on it, whatever its checksum byte (R185, R187). -/
theorem feedAll_wrong_end {k : Kind} {f : List Byte} (h : Headed k f) (endMarker : byteAt f (f.length - 1) ≠ 0xAB) :
    feedAll Decoder.reset f
      = (Decoder.reset, lastOnly f.length ⟨none, some (.badEnd (byteAt f (f.length - 1)) k
          (csumMatches (byteAt f (f.length - 2)) (csum (payloadRegion f))))⟩) := by
  rw [feedAll_headed h, feedEnd_other _ endMarker]
  rfl

/-! ## The statements about valid frames and changed ones -/

/-- Settles O40: the registers before the checksum byte are read off the frame. -/
theorem accumulatorIsTheSumOfThePayload : Obligations.AccumulatorIsTheSumOfThePayload := by
  intro f k h
  obtain ⟨headed, -, -⟩ := validFrame_iff.1 h
  rw [feedAll_payload headed]
  exact ⟨rfl, rfl⟩

/-- After any bytes fed since reset, S_IDLE holds the reset registers (R32). -/
theorem feedAll_reset_eq_reset {bs : List Byte} (hst : (feedAll Decoder.reset bs).1.st = .sIdle) :
    (feedAll Decoder.reset bs).1 = Decoder.reset :=
  eq_reset_of_meaningful_of_sIdle (feedAll_meaningful bs reset_meaningful) hst

/-- Settles O37: in S_IDLE nothing is left of the bytes before. -/
theorem aValidFrameIsDecodedAfterAnyBytes : Obligations.AValidFrameIsDecodedAfterAnyBytes := by
  intro before f k hst h
  rw [feedAll_append, feedAll_reset_eq_reset hst, feedAll_validFrame h]

theorem two_le_firstField {k : Kind} (h : k ≠ .none) : 2 ≤ k.firstField := by
  cases k
  case none => exact absurd rfl h
  all_goals decide

/-- A change at a field, filler or device-id byte, or behind them, leaves a frame headed as it was. -/
theorem Headed.set {k : Kind} {f : List Byte} (h : Headed k f) {o : Nat} (ho : k.firstField ≤ o) (v : Byte) :
    Headed k (f.set o v) := by
  obtain ⟨hk, hlen, h0, hd, hm⟩ := h
  have keeps {i : Nat} (hi : i < k.firstField) : byteAt (f.set o v) i = byteAt f i := byteAt_set_ne v (by omega)
  refine ⟨hk, (List.length_set ..).trans hlen, ?_, ?_, ?_⟩
  case refine_1 =>
    have := two_le_firstField hk
    rwa [keeps (by omega)]
  case refine_2 =>
    cases k
    case none => exact absurd rfl hk
    case meas => simpa only [Kind.discriminatedBy, keeps (show 1 < _ by decide)] using hd
    all_goals simpa only [Kind.discriminatedBy, keeps (show 1 < _ by decide), keeps (show 2 < _ by decide)] using hd
  case refine_3 =>
    rintro rfl
    rw [keeps (show 3 < _ by decide)]
    exact hm rfl

theorem length_payloadRegion (f : List Byte) : (payloadRegion f).length = f.length - 4 := by
  simp [payloadRegion]
  omega

theorem byteAt_payloadRegion {f : List Byte} {o : Nat} (h2 : 2 ≤ o) (ho : o + 3 ≤ f.length) :
    byteAt (payloadRegion f) (o - 2) = byteAt f o := by
  have inRegion : o - 2 < f.length - 4 := by omega
  have offset : 2 + (o - 2) = o := by omega
  simp only [byteAt, payloadRegion, List.getD_eq_getElem?_getD, List.getElem?_take, List.getElem?_drop, if_pos inRegion,
    offset]

/-- A change inside the payload region. -/
theorem payloadRegion_set {f : List Byte} {o : Nat} (h2 : 2 ≤ o) (v : Byte) :
    payloadRegion (f.set o v) = (payloadRegion f).set (o - 2) v := by
  rw [payloadRegion, payloadRegion, List.length_set, List.drop_set, if_neg (by omega), List.take_set]

/-- A change behind the payload region. -/
theorem payloadRegion_set_behind {f : List Byte} {o : Nat} (h2 : 2 ≤ o) (ho : f.length ≤ o + 2) (v : Byte) :
    payloadRegion (f.set o v) = payloadRegion f := by
  rw [payloadRegion_set h2, List.set_eq_of_length_le (by rw [length_payloadRegion]; omega)]

/-- Settles O41: the region's sum changes by the difference of the byte, so the checksum byte is no longer right. -/
theorem aChangedFieldByteIsCaught : Obligations.AChangedFieldByteIsCaught := by
  intro f k o v h ho hlen hv
  obtain ⟨headed, checksum, endMarker⟩ := validFrame_iff.1 h
  have h2 : 2 ≤ o := (two_le_firstField headed.kind).trans ho
  have inRegion : o - 2 < (payloadRegion f).length := by rw [length_payloadRegion]; omega
  have changed := feedAll_wrong_checksum (headed.set ho v)
  rw [List.length_set, byteAt_set_ne v (by omega), byteAt_set_ne v (by omega), payloadRegion_set h2,
    csum_set v inRegion, byteAt_payloadRegion h2 hlen, checksum] at changed
  refine changed (fun same => hv ?_) endMarker
  exact sub_eq_zero.1 (left_eq_add.1 same)

/-- Settles O42: the region's sum is as it was, so the changed byte itself is what the tail finds wrong. -/
theorem aChangedTailByteIsCaught : Obligations.AChangedTailByteIsCaught := by
  intro f k v h
  obtain ⟨headed, checksum, endMarker⟩ := validFrame_iff.1 h
  have len := headed.nine_le_length
  have fields : k.firstField ≤ 4 := by cases k <;> decide
  refine ⟨fun hv => ?checksum, fun hv => ?endMarker⟩
  case checksum =>
    have changed := feedAll_wrong_checksum (headed.set (o := f.length - 2) (by omega) v)
    rw [List.length_set, byteAt_set_same v (by omega), byteAt_set_ne v (by omega),
      payloadRegion_set_behind (by omega) (by omega), ← checksum] at changed
    exact changed hv endMarker
  case endMarker =>
    have changed := feedAll_wrong_end (headed.set (o := f.length - 1) (by omega) v)
    rw [List.length_set, byteAt_set_same v (by omega), byteAt_set_ne v (by omega),
      payloadRegion_set_behind (by omega) (by omega), (csumMatches_iff _ _).2 checksum] at changed
    exact changed hv

end Sys2Proof.Machine
end

section
/-! PROOF. The frame instructions on a decoder in its reset state (R72 to R76, R134, R183, R184). -/

namespace Sys2Proof.Machine

/-! ## Words as frames -/

section
variable (tag : Byte) (region : List Byte) (cs : Byte)

theorem payloadRegion_inboundFrame : payloadRegion (inboundFrame tag region cs) = region := by
  simp [payloadRegion, inboundFrame]

theorem byteAt_inboundFrame_checksum :
    byteAt (inboundFrame tag region cs) ((inboundFrame tag region cs).length - 2) = cs := by
  simp [byteAt, inboundFrame]

theorem byteAt_inboundFrame_last :
    byteAt (inboundFrame tag region cs) ((inboundFrame tag region cs).length - 1) = 0xAB := by
  simp [byteAt, inboundFrame]

end

section
variable {k : Kind} {tag : Byte} {region : List Byte} {cs : Byte}

theorem feedAll_inboundFrame_valid (h : Headed k (inboundFrame tag region cs)) (checksum : cs = csum region) :
    feedAll Decoder.reset (inboundFrame tag region cs)
      = (Decoder.reset, lastOnly (region.length + 4) ⟨frameEvent k (inboundFrame tag region cs), none⟩) := by
  have valid : validFrame k (inboundFrame tag region cs) = true := by
    rw [validFrame_iff, byteAt_inboundFrame_checksum, byteAt_inboundFrame_last, payloadRegion_inboundFrame]
    exact ⟨h, checksum, rfl⟩
  rw [feedAll_validFrame valid, length_inboundFrame]

theorem feedAll_inboundFrame_wrong (h : Headed k (inboundFrame tag region cs)) (checksum : cs ≠ csum region) :
    feedAll Decoder.reset (inboundFrame tag region cs)
      = (Decoder.reset, lastOnly (region.length + 4) ⟨none, some (.badChecksum k)⟩) := by
  rw [feedAll_wrong_checksum h _ (byteAt_inboundFrame_last tag region cs), length_inboundFrame]
  rwa [byteAt_inboundFrame_checksum, payloadRegion_inboundFrame]

end

theorem headed_measWord (a b id : Word16) (cs : Byte) : Headed .meas (measWord a b id cs) where
  kind := by decide
  length := rfl
  start := rfl
  discriminated := rfl
  mode := by rintro ⟨⟩

theorem headed_ack05Word (f0 f1 : Byte) (id : Word16) (cs : Byte) : Headed .ack05 (ack05Word f0 f1 id cs) where
  kind := by decide
  length := rfl
  start := rfl
  discriminated := rfl
  mode := by rintro ⟨⟩

theorem headed_ack06Word {mode : Byte} (val : Byte) (id : Word16) (cs : Byte) (h : mode = 0x00 ∨ mode = 0x01) :
    Headed .ack06 (ack06Word mode val id cs) where
  kind := by decide
  length := rfl
  start := rfl
  discriminated := rfl
  mode := fun _ => h

theorem headed_ack07Word (fw : Word24) (id : Word16) (cs : Byte) : Headed .ack07 (ack07Word fw id cs) where
  kind := by decide
  length := rfl
  start := rfl
  discriminated := rfl
  mode := by rintro ⟨⟩

theorem headed_ack08Word (mode period : Byte) (id : Word16) (cs : Byte) :
    Headed .ack08 (ack08Word mode period id cs) where
  kind := by decide
  length := rfl
  start := rfl
  discriminated := rfl
  mode := by rintro ⟨⟩

/-! ## The statements -/

/-- An instruction that feeds the word `bs` on reset registers, by what `feedAll` makes of the word. -/
theorem exec_of_feedAll_reset {i : Instr} {s : State} {bs : List Byte} {d : Decoder} {outs : List FeedResult}
    (feeds : exec i s = .next (s.feedBytes bs)) (hdec : s.dec = Decoder.reset)
    (h : feedAll Decoder.reset bs = (d, outs)) : exec i s = .next ((s.setDec d).withFeedOut outs) := by
  rw [feeds, State.feedBytes, hdec, h]

/-- A byte is the checksum of a region when it is the sum modulo 256 as a number (R132). -/
theorem eq_csum_of_toNat {cs : Byte} {region : List Byte} (h : cs.toNat = (region.map BitVec.toNat).sum % 256) :
    cs = csum region :=
  BitVec.eq_of_toNat_eq (h.trans (csum_toNat region).symm)

/-- Settles O28. -/
theorem validMeasurementFrameIsReported : Obligations.ValidMeasurementFrameIsReported := by
  intro s a b id cs hdec hcs
  have checksum : cs = csum (measRegion a b id) := eq_csum_of_toNat (by
    simp [measRegion, lo16_toNat, hi16_toNat, hcs, add_assoc])
  have event : frameEvent .meas (measWord a b id cs) = some (.measurementReport a b id) := by
    simp [frameEvent, frameDeviceId, measWord, inboundFrame, measRegion, byteAt]
  have outs := feedAll_inboundFrame_valid (headed_measWord a b id cs) checksum
  rw [← measWord, event] at outs
  exact exec_of_feedAll_reset rfl hdec outs

/-- The checksum of an acknowledgement of nine bytes as a number. -/
theorem eq_csum_ackRegion {cs sub x y : Byte} {id : Word16}
    (h : cs.toNat = (sub.toNat + x.toNat + y.toNat + id.toNat % 256 + id.toNat / 256) % 256) :
    cs = csum (ackRegion sub x y id) :=
  eq_csum_of_toNat (by simp [ackRegion, lo16_toNat, hi16_toNat, h, add_assoc])

/-- Settles O29. -/
theorem validSetIdAcknowledgementIsSilent : Obligations.ValidSetIdAcknowledgementIsSilent := by
  intro s f0 f1 id cs hdec hcs
  have outs := feedAll_inboundFrame_valid (headed_ack05Word f0 f1 id cs) (eq_csum_ackRegion hcs)
  exact exec_of_feedAll_reset rfl hdec outs

/-- Settles O30. -/
theorem validSleepWakeAcknowledgementIsReported : Obligations.ValidSleepWakeAcknowledgementIsReported := by
  intro s mode val id cs hdec hmode hcs
  have event : frameEvent .ack06 (ack06Word mode val id cs) = some (.sleepWakeAck val id) := by
    simp [frameEvent, frameDeviceId, ack06Word, inboundFrame, ackRegion, byteAt]
  have outs := feedAll_inboundFrame_valid (headed_ack06Word val id cs hmode) (eq_csum_ackRegion hcs)
  rw [← ack06Word, event] at outs
  exact exec_of_feedAll_reset rfl hdec outs

/-- Settles O31. -/
theorem validFirmwareAcknowledgementIsReported : Obligations.ValidFirmwareAcknowledgementIsReported := by
  intro s fw id cs hdec hcs
  have checksum : cs = csum (ack07Region fw id) := eq_csum_of_toNat (by
    simp [ack07Region, byte0of24_toNat, byte1of24_toNat, byte2of24_toNat, lo16_toNat, hi16_toNat, hcs, add_assoc])
  have event : frameEvent .ack07 (ack07Word fw id cs) = some (.firmwareAck (fw.setWidth 32) id) := by
    simp [frameEvent, frameDeviceId, ack07Word, inboundFrame, ack07Region, byteAt, zext32]
  have outs := feedAll_inboundFrame_valid (headed_ack07Word fw id cs) checksum
  rw [← ack07Word, event] at outs
  exact exec_of_feedAll_reset rfl hdec outs

/-- Settles O32. -/
theorem validPeriodAcknowledgementIsReported : Obligations.ValidPeriodAcknowledgementIsReported := by
  intro s mode period id cs hdec hcs
  have event : frameEvent .ack08 (ack08Word mode period id cs) = some (.periodAck period id) := by
    simp [frameEvent, frameDeviceId, ack08Word, inboundFrame, ackRegion, byteAt]
  have outs := feedAll_inboundFrame_valid (headed_ack08Word mode period id cs) (eq_csum_ackRegion hcs)
  rw [← ack08Word, event] at outs
  exact exec_of_feedAll_reset rfl hdec outs

/-- Settles O33: whatever the kind, the tail finds the checksum wrong. -/
theorem frameWithAWrongChecksumIsDropped : Obligations.FrameWithAWrongChecksumIsDropped := by
  intro s a b id fw x y cs hdec
  refine ⟨fun hcs => ?meas, fun hcs => ?ack05, fun hx hcs => ?ack06, fun hcs => ?ack07, fun hcs => ?ack08⟩
  case meas => exact exec_of_feedAll_reset rfl hdec (feedAll_inboundFrame_wrong (headed_measWord a b id cs) hcs)
  case ack05 => exact exec_of_feedAll_reset rfl hdec (feedAll_inboundFrame_wrong (headed_ack05Word x y id cs) hcs)
  case ack06 => exact exec_of_feedAll_reset rfl hdec (feedAll_inboundFrame_wrong (headed_ack06Word y id cs hx) hcs)
  case ack07 => exact exec_of_feedAll_reset rfl hdec (feedAll_inboundFrame_wrong (headed_ack07Word fw id cs) hcs)
  case ack08 => exact exec_of_feedAll_reset rfl hdec (feedAll_inboundFrame_wrong (headed_ack08Word x y id cs) hcs)

/-- The first four bytes of an ACK06 frame with a bad mode-selector (R183). -/
theorem feedAll_ack06_bad_mode {mode : Byte} (h0 : mode ≠ 0x00) (h1 : mode ≠ 0x01) :
    feedAll Decoder.reset [0xAA, 0xC5, 0x06, mode]
      = (Decoder.reset, [⟨none, none⟩, ⟨none, none⟩, ⟨none, none⟩, ⟨none, some (.badMode mode)⟩]) := by
  have head : feedAll Decoder.reset [0xAA, 0xC5, 0x06] = (cleared .a06Mode .ack06 0x06, List.replicate 3 .silent) := rfl
  have drop : feed (cleared .a06Mode .ack06 0x06) mode = (Decoder.reset, ⟨none, some (.badMode mode)⟩) :=
    (feed_at_a06Mode mode rfl).trans (feedMode06_other _ h0 h1)
  rw [show [0xAA, 0xC5, 0x06, mode] = [0xAA, 0xC5, 0x06] ++ [mode] from rfl, feedAll_append, head, feedAll, drop]
  rfl

/-- Settles O34: the drop leaves the reset registers to the other five bytes. -/
theorem ack06WithABadModeIsDropped : Obligations.Ack06WithABadModeIsDropped := by
  intro s mode val id cs hdec h0 h1
  refine ⟨_, _, rfl, exec_of_feedAll_reset (bs := [0xAA, 0xC5, 0x06, mode] ++ [val, lo16 id, hi16 id, cs, 0xAB])
    rfl hdec ?_⟩
  rw [feedAll_append, feedAll_ack06_bad_mode h0 h1]
  rfl

end Sys2Proof.Machine
end

section
/-! PROOF. Every event comes from a valid frame: the bytes since the decoder last held the reset registers (R134,
R151). -/

namespace Sys2Proof.Machine

/-- After every byte of `bs` the decoder is out of S_IDLE: they belong to one attempt. -/
def StaysOpen : Decoder → List Byte → Prop
  | _, [] => True
  | d, b :: bs => (feed d b).1.st ≠ .sIdle ∧ StaysOpen (feed d b).1 bs

theorem staysOpen_append {d : Decoder} {bs cs : List Byte} :
    StaysOpen d (bs ++ cs) ↔ StaysOpen d bs ∧ StaysOpen (feedAll d bs).1 cs := by
  induction bs generalizing d with
  | nil => simp [StaysOpen]
  | cons b rest ih => simp [StaysOpen, ih, and_assoc]

/-- Bytes fed since reset end in an attempt that began on the reset registers. -/
theorem exists_attempt (bs : List Byte) :
    ∃ before a, bs = before ++ a ∧ (feedAll Decoder.reset before).1 = Decoder.reset ∧ StaysOpen Decoder.reset a := by
  induction bs using List.reverseRecOn with
  | nil => exact ⟨[], [], rfl, rfl, trivial⟩
  | append_singleton bs b ih =>
    by_cases hst : (feedAll Decoder.reset (bs ++ [b])).1.st = .sIdle
    · exact ⟨bs ++ [b], [], (List.append_nil _).symm, feedAll_reset_eq_reset hst, trivial⟩
    · obtain ⟨before, a, rfl, hbefore, hopen⟩ := ih
      refine ⟨before, a ++ [b], List.append_assoc .., hbefore, staysOpen_append.2 ⟨hopen, ?_, trivial⟩⟩
      simpa only [feedAll_append, hbefore, feedAll_cons_fst, feedAll_nil] using hst

/-- A byte that keeps an attempt open carries it on. -/
theorem goesOn_of_open {d : Decoder} {b : Byte} (h : (feed d b).1.st ≠ .sIdle) : GoesOn d b (feed d b).1 := by
  obtain hreset | ⟨hst, same⟩ | goesOn := feed_fst_cases d b
  · exact absurd (congrArg Decoder.st hreset) h
  · exact absurd ((congrArg Decoder.st same).trans hst) h
  · exact goesOn

/-- Behind the discriminators every byte of an open attempt is one byte closer to its end. -/
theorem length_of_staysOpen {d : Decoder} {bs : List Byte} (near : d.st.bytesLeft ≤ 8) (notSub : d.st ≠ .aSub)
    (hopen : StaysOpen d bs) (hend : (feedAll d bs).1.st = .tEnd) : bs.length + 1 = d.st.bytesLeft := by
  induction bs generalizing d with
  | nil => rw [show d.st = .tEnd from hend]; rfl
  | cons b rest ih =>
    obtain ⟨hb, hrest⟩ := hopen
    have exactly := (goesOn_of_open hb).leftExactly notSub
    have notSub' : (feed d b).1.st ≠ .aSub := fun hst => by
      rw [hst, St.bytesLeft] at exactly
      omega
    have tail := ih (by omega) notSub' hrest hend
    rw [List.length_cons]
    omega

/-! ## The bytes of an open attempt, where the state's rule checks them -/

theorem eq_of_open_at_reset {b : Byte} (h : (feed Decoder.reset b).1.st ≠ .sIdle) : b = 0xAA := by
  by_contra hb
  exact h (by rw [feed_reset_of_ne hb]; rfl)

theorem eq_of_open_at_sTag {d : Decoder} {b : Byte} (hst : d.st = .sTag) (h : (feed d b).1.st ≠ .sIdle) :
    b = 0xC0 ∨ b = 0xC5 := by
  by_contra hb
  obtain ⟨hMeas, hAck⟩ := not_or.1 hb
  exact h (by rw [feed_at_sTag b hst, feedTag_other d hMeas hAck]; rfl)

theorem eq_of_open_at_aSub {d : Decoder} {b : Byte} (hst : d.st = .aSub) (h : (feed d b).1.st ≠ .sIdle) :
    b = 0x05 ∨ b = 0x06 ∨ b = 0x07 ∨ b = 0x08 := by
  by_contra hb
  simp only [not_or] at hb
  obtain ⟨h05, h06, h07, h08⟩ := hb
  exact h (by rw [feed_at_aSub b hst, feedSub_other d h05 h06 h07 h08]; rfl)

theorem eq_of_open_at_a06Mode {d : Decoder} {b : Byte} (hst : d.st = .a06Mode) (h : (feed d b).1.st ≠ .sIdle) :
    b = 0x00 ∨ b = 0x01 := by
  by_contra hb
  obtain ⟨h0, h1⟩ := not_or.1 hb
  exact h (by rw [feed_at_a06Mode b hst, feedMode06_other d h0 h1]; rfl)

/-- An acknowledgement's attempt, from its sub-discriminator on. -/
theorem headed_of_staysOpen_ack {sub : Byte} {rest : List Byte}
    (hopen : StaysOpen (cleared .aSub .none 0) (sub :: rest))
    (hend : (feedAll (cleared .aSub .none 0) (sub :: rest)).1.st = .tEnd) (b : Byte) :
    ∃ k, Headed k (0xAA :: 0xC5 :: sub :: rest ++ [b]) := by
  obtain ⟨hsub, hrest⟩ := hopen
  have remaining := length_of_staysOpen (d := (feed (cleared .aSub .none 0) sub).1) (bs := rest)
  obtain rfl | rfl | rfl | rfl := eq_of_open_at_aSub rfl hsub
  case inl =>
    have len : rest.length + 1 = 6 := remaining (by decide) (by decide) hrest hend
    exact ⟨.ack05, by decide, by simp [Kind.length]; omega, rfl, rfl, by rintro ⟨⟩⟩
  case inr.inl =>
    have len : rest.length + 1 = 6 := remaining (by decide) (by decide) hrest hend
    match rest with
    | mode :: rest =>
      have accepted : mode = 0x00 ∨ mode = 0x01 := eq_of_open_at_a06Mode rfl hrest.1
      exact ⟨.ack06, by decide, by simp [Kind.length] at len ⊢; omega, rfl, rfl, fun _ => accepted⟩
  case inr.inr.inl =>
    have len : rest.length + 1 = 7 := remaining (by decide) (by decide) hrest hend
    exact ⟨.ack07, by decide, by simp [Kind.length]; omega, rfl, rfl, by rintro ⟨⟩⟩
  case inr.inr.inr =>
    have len : rest.length + 1 = 6 := remaining (by decide) (by decide) hrest hend
    exact ⟨.ack08, by decide, by simp [Kind.length]; omega, rfl, rfl, by rintro ⟨⟩⟩

/-- An open attempt that has reached T_END, with one byte more, is headed as a frame of some kind. -/
theorem headed_of_staysOpen {a : List Byte} (hopen : StaysOpen Decoder.reset a)
    (hend : (feedAll Decoder.reset a).1.st = .tEnd) (b : Byte) : ∃ k, Headed k (a ++ [b]) := by
  match a with
  | [] => cases hend
  | start :: rest =>
    obtain ⟨hstart, hrest⟩ := hopen
    obtain rfl := eq_of_open_at_reset hstart
    match rest with
    | [] => cases hend
    | tag :: rest =>
      obtain ⟨htag, hrest⟩ := hrest
      obtain rfl | rfl := eq_of_open_at_sTag rfl htag
      · have len : rest.length + 1 = 8 :=
          length_of_staysOpen (d := cleared .mPm25Lo .meas 0) (by decide) (by decide) hrest hend
        exact ⟨.meas, by decide, by simp [Kind.length]; omega, rfl, rfl, by rintro ⟨⟩⟩
      · match rest with
        | [] => cases hend
        | sub :: rest => exact headed_of_staysOpen_ack hrest hend b

/-! ## The statement -/

/-- The output of the last byte of a sequence that is silent before it. -/
theorem feed_eq_of_feedAll_lastOnly {a : List Byte} {b : Byte} {n : Nat} {r : FeedResult}
    (h : feedAll Decoder.reset (a ++ [b]) = (Decoder.reset, lastOnly n r)) :
    (feed (feedAll Decoder.reset a).1 b).2 = r := by
  have last := congrArg (fun out => out.2.getLast?) h
  simpa [feedAll_append, lastOnly] using last

/-- A headed frame whose last byte gives an event is valid, and the event is its own. -/
theorem validFrame_of_event {k : Kind} {a : List Byte} {b : Byte} {e : DecodedEvent} (headed : Headed k (a ++ [b]))
    (he : (feed (feedAll Decoder.reset a).1 b).2.event = some e) :
    validFrame k (a ++ [b]) = true ∧ frameEvent k (a ++ [b]) = some e := by
  by_cases endMarker : byteAt (a ++ [b]) ((a ++ [b]).length - 1) = 0xAB
  case neg =>
    rw [feed_eq_of_feedAll_lastOnly (feedAll_wrong_end headed endMarker)] at he
    cases he
  by_cases checksum : byteAt (a ++ [b]) ((a ++ [b]).length - 2) = csum (payloadRegion (a ++ [b]))
  case neg =>
    rw [feed_eq_of_feedAll_lastOnly (feedAll_wrong_checksum headed checksum endMarker)] at he
    cases he
  have valid := validFrame_iff.2 ⟨headed, checksum, endMarker⟩
  rw [feed_eq_of_feedAll_lastOnly (feedAll_validFrame valid)] at he
  exact ⟨valid, he⟩

/-- Settles O39: the event ends an open attempt in T_END, which is headed as a frame, and its tail is right. -/
theorem everyEventComesFromAValidFrame : Obligations.EveryEventComesFromAValidFrame := by
  intro bs b e he
  obtain ⟨before, a, rfl, hbefore, hopen⟩ := exists_attempt bs
  have sameRegisters : (feedAll Decoder.reset (before ++ a)).1 = (feedAll Decoder.reset a).1 := by
    rw [feedAll_append, hbefore]
  rw [sameRegisters] at he
  obtain h | ⟨c, h⟩ | ⟨hend, -, -, -⟩ := feed_cases (feedAll Decoder.reset a).1 b
  case inl => rw [h] at he; cases he
  case inr.inl => rw [h] at he; cases he
  case inr.inr =>
    obtain ⟨k, headed⟩ := headed_of_staysOpen hopen hend b
    obtain ⟨valid, event⟩ := validFrame_of_event headed he
    exact ⟨before, a ++ [b], k, List.append_assoc .., hbefore, valid, event⟩

end Sys2Proof.Machine
end
